-- ==== Sys2Proof/Word.lean ====
section
/-! DEFINITION. The word types of the PPU tile-renderer: one name for each width the spec gives
(00_scope R8 to R10, 10_state R20). -/

namespace Sys2Proof

/-- One byte of the bus, of VRAM, of CGRAM, of OAM (20_memory R64). -/
abbrev Byte := BitVec 8

/-- A 16-bit address of the bus register space (20_memory R51). -/
abbrev BusAddr := BitVec 16

/-- A 16-bit colour value, copied and never computed on (10_state R37). -/
abbrev Pixel := BitVec 16

/-- A 15-bit word address into VRAM (10_state R28). -/
abbrev VramAddr := BitVec 15

/-- A 9-bit byte pointer into CGRAM (10_state R32). -/
abbrev CgramAddr := BitVec 9

/-- The index of a frame buffer, 0 or 1 (10_state R38). -/
abbrev BufferIndex := BitVec 1

/-- The frame counter (10_state R23). -/
abbrev FrameNumber := BitVec 32

/-- The 26-bit command word, an input event packed into one number (30_encoding R82). -/
abbrev CommandWord := BitVec 26

end Sys2Proof
end

