-- ==== Sys2Proof/Syntax.lean ====
section
/-! DEFINITION. The operations of the block (00_scope R7, 30_encoding R80, R84): one constructor per
row of spec/opcode_table.json. -/

namespace Sys2Proof

/-- One operation, that is, one input event. `v` is the byte written; bits the spec calls ignored are no
operands (30_encoding R82). -/
inductive Instr where
  /-- WRITE 0x2107 (41_register_writes R141). -/
  | tilemap0 (v : Byte)
  /-- WRITE 0x2108 (R142). -/
  | tilemap1 (v : Byte)
  /-- WRITE 0x2109 (R143). -/
  | tilemap2 (v : Byte)
  /-- WRITE 0x210A (R144). -/
  | tilemap3 (v : Byte)
  /-- WRITE 0x210B (R145). -/
  | chrbase01 (v : Byte)
  /-- WRITE 0x210C (R146). -/
  | chrbase23 (v : Byte)
  /-- WRITE 0x2115 (R147). -/
  | vportctrl (v : Byte)
  /-- WRITE 0x2116 (R148). -/
  | vaddrl (v : Byte)
  /-- WRITE 0x2117 (R149). -/
  | vaddrh (v : Byte)
  /-- WRITE 0x2118 (R150). -/
  | vdatal (v : Byte)
  /-- WRITE 0x2119 (R151). -/
  | vdatah (v : Byte)
  /-- WRITE 0x2121 (R152). -/
  | cgaddr (v : Byte)
  /-- WRITE 0x2122 (R153). -/
  | cgdata (v : Byte)
  /-- WRITE 0x4200 (R154). -/
  | nmien (v : Byte)
  /-- READ 0x4210 (42_register_reads R171). -/
  | nmistat
  /-- READ 0x4212 (R172). -/
  | hvstat
  /-- WRITE to an address that is no write register (41_register_writes R155). -/
  | writeOther (a : BusAddr) (v : Byte)
  /-- READ of an address that is no read register (42_register_reads R173). -/
  | readOther (a : BusAddr)
  /-- One TICK (40_timing_controller R120). -/
  | tick
  /-- RESET (70_reset_and_hazards R240). -/
  | reset
deriving DecidableEq, Repr

end Sys2Proof
end

