-- ==== Sys2Proof/WellFormed.lean ====
section
/-! DEFINITION. Which terms of `Instr` stand for an input event: the two default rows apply only when
no register row does (30_encoding R82, R83). -/

namespace Sys2Proof

/-- The 14 addresses recognised for WRITE (30_encoding R84). -/
def writeAddrs : List BusAddr :=
  [0x2107#16, 0x2108#16, 0x2109#16, 0x210A#16, 0x210B#16, 0x210C#16, 0x2115#16,
   0x2116#16, 0x2117#16, 0x2118#16, 0x2119#16, 0x2121#16, 0x2122#16, 0x4200#16]

/-- The 2 addresses recognised for READ (30_encoding R84). -/
def readAddrs : List BusAddr := [0x4210#16, 0x4212#16]

/-- A default row's address is none of the addresses recognised for its direction (30_encoding R83,
D16). Every other term is well formed whatever its byte. -/
def Instr.wellFormed : Instr → Bool
  | .writeOther a _ => !writeAddrs.contains a
  | .readOther a => !readAddrs.contains a
  | .tilemap0 _ => true
  | .tilemap1 _ => true
  | .tilemap2 _ => true
  | .tilemap3 _ => true
  | .chrbase01 _ => true
  | .chrbase23 _ => true
  | .vportctrl _ => true
  | .vaddrl _ => true
  | .vaddrh _ => true
  | .vdatal _ => true
  | .vdatah _ => true
  | .cgaddr _ => true
  | .cgdata _ => true
  | .nmien _ => true
  | .nmistat => true
  | .hvstat => true
  | .tick => true
  | .reset => true

end Sys2Proof
end

