-- ==== Sys2Proof/Decode.lean ====
section
/-! DEFINITION. The command word of 30_encoding R82: its decoder (R83), its encoder, and the rows of
spec/opcode_table.json as data, so that the decoder can be held against the table. -/

namespace Sys2Proof

/-- Why a number is not decoded. -/
inductive DecodeError where
  /-- The number has a bit above bit 25, so it is no 26-bit command word (log 19). Safe. -/
  | notACommandWord
deriving DecidableEq, Repr

/-- Bits 25:24: 0 TICK, 1 READ, 2 WRITE, 3 RESET (R82). -/
def wordKind (w : CommandWord) : BitVec 2 := w.extractLsb' 24 2

/-- Bits 23:8 (R82). -/
def wordAddr (w : CommandWord) : BusAddr := w.extractLsb' 8 16

/-- Bits 7:0 (R82). -/
def wordData (w : CommandWord) : Byte := w.extractLsb' 0 8

/-- The command word of a kind, an address and a byte (R82). -/
def packWord (k : BitVec 2) (a : BusAddr) (v : Byte) : CommandWord := k ++ a ++ v

/-- A WRITE: the full 16-bit address is compared with each write register (R83, R84). -/
def decodeWrite (a : BusAddr) (v : Byte) : Instr :=
  if a = 0x2107#16 then .tilemap0 v
  else if a = 0x2108#16 then .tilemap1 v
  else if a = 0x2109#16 then .tilemap2 v
  else if a = 0x210A#16 then .tilemap3 v
  else if a = 0x210B#16 then .chrbase01 v
  else if a = 0x210C#16 then .chrbase23 v
  else if a = 0x2115#16 then .vportctrl v
  else if a = 0x2116#16 then .vaddrl v
  else if a = 0x2117#16 then .vaddrh v
  else if a = 0x2118#16 then .vdatal v
  else if a = 0x2119#16 then .vdatah v
  else if a = 0x2121#16 then .cgaddr v
  else if a = 0x2122#16 then .cgdata v
  else if a = 0x4200#16 then .nmien v
  else .writeOther a v

/-- A READ: the full 16-bit address is compared with each read register (R83, R84). -/
def decodeRead (a : BusAddr) : Instr :=
  if a = 0x4210#16 then .nmistat
  else if a = 0x4212#16 then .hvstat
  else .readOther a

/-- Every command word selects exactly one operation (R83). -/
def decode (w : CommandWord) : Instr :=
  if wordKind w = 0#2 then .tick
  else if wordKind w = 1#2 then decodeRead (wordAddr w)
  else if wordKind w = 2#2 then decodeWrite (wordAddr w) (wordData w)
  else .reset

/-- The decoder on any number: a number of more than 26 bits is rejected by name. -/
def decodeNat (w : Nat) : Except DecodeError Instr :=
  if w < 2 ^ 26 then .ok (decode (BitVec.ofNat 26 w)) else .error .notACommandWord

/-- The decoder as the host asks it: `w` is the whole command word, bit 0 its least significant bit, as
spec/opcode_table.json numbers it. The table's rows are all one word long, so `nbits` decides nothing. -/
def decodeTableWord (_nbits w : Nat) : Option Instr :=
  match decodeNat w with
  | .ok i => some i
  | .error _ => none

/-- The kind field of an operation (R82). -/
def Instr.kind : Instr → BitVec 2
  | .tick => 0#2
  | .nmistat => 1#2
  | .hvstat => 1#2
  | .readOther _ => 1#2
  | .reset => 3#2
  | .tilemap0 _ => 2#2
  | .tilemap1 _ => 2#2
  | .tilemap2 _ => 2#2
  | .tilemap3 _ => 2#2
  | .chrbase01 _ => 2#2
  | .chrbase23 _ => 2#2
  | .vportctrl _ => 2#2
  | .vaddrl _ => 2#2
  | .vaddrh _ => 2#2
  | .vdatal _ => 2#2
  | .vdatah _ => 2#2
  | .cgaddr _ => 2#2
  | .cgdata _ => 2#2
  | .nmien _ => 2#2
  | .writeOther _ _ => 2#2

/-- The encoder, from the address map of R84; the ignored fields are written as 0 (R82). -/
def encode : Instr → CommandWord
  | .tilemap0 v => packWord 2#2 0x2107#16 v
  | .tilemap1 v => packWord 2#2 0x2108#16 v
  | .tilemap2 v => packWord 2#2 0x2109#16 v
  | .tilemap3 v => packWord 2#2 0x210A#16 v
  | .chrbase01 v => packWord 2#2 0x210B#16 v
  | .chrbase23 v => packWord 2#2 0x210C#16 v
  | .vportctrl v => packWord 2#2 0x2115#16 v
  | .vaddrl v => packWord 2#2 0x2116#16 v
  | .vaddrh v => packWord 2#2 0x2117#16 v
  | .vdatal v => packWord 2#2 0x2118#16 v
  | .vdatah v => packWord 2#2 0x2119#16 v
  | .cgaddr v => packWord 2#2 0x2121#16 v
  | .cgdata v => packWord 2#2 0x2122#16 v
  | .nmien v => packWord 2#2 0x4200#16 v
  | .nmistat => packWord 1#2 0x4210#16 0#8
  | .hvstat => packWord 1#2 0x4212#16 0#8
  | .writeOther a v => packWord 2#2 a v
  | .readOther a => packWord 1#2 a 0#8
  | .tick => packWord 0#2 0#16 0#8
  | .reset => packWord 3#2 0#16 0#8

/-- One row of spec/opcode_table.json: it applies to `w` when `w &&& mask = pattern` (R82). -/
structure OpcodeRow where
  mnemonic : String
  pattern : CommandWord
  mask : CommandWord
deriving DecidableEq, Repr

/-- Whether a row applies to a command word (R82). -/
def OpcodeRow.applies (r : OpcodeRow) (w : CommandWord) : Bool := w &&& r.mask == r.pattern

/-- The 16 register rows, all of mask 0x3FFFF00 (R82). -/
def registerRows : List OpcodeRow :=
  [⟨"TILEMAP0", 0x2210700#26, 0x3FFFF00#26⟩, ⟨"TILEMAP1", 0x2210800#26, 0x3FFFF00#26⟩,
   ⟨"TILEMAP2", 0x2210900#26, 0x3FFFF00#26⟩, ⟨"TILEMAP3", 0x2210A00#26, 0x3FFFF00#26⟩,
   ⟨"CHRBASE01", 0x2210B00#26, 0x3FFFF00#26⟩, ⟨"CHRBASE23", 0x2210C00#26, 0x3FFFF00#26⟩,
   ⟨"VPORTCTRL", 0x2211500#26, 0x3FFFF00#26⟩, ⟨"VADDRL", 0x2211600#26, 0x3FFFF00#26⟩,
   ⟨"VADDRH", 0x2211700#26, 0x3FFFF00#26⟩, ⟨"VDATAL", 0x2211800#26, 0x3FFFF00#26⟩,
   ⟨"VDATAH", 0x2211900#26, 0x3FFFF00#26⟩, ⟨"CGADDR", 0x2212100#26, 0x3FFFF00#26⟩,
   ⟨"CGDATA", 0x2212200#26, 0x3FFFF00#26⟩, ⟨"NMIEN", 0x2420000#26, 0x3FFFF00#26⟩,
   ⟨"NMISTAT", 0x1421000#26, 0x3FFFF00#26⟩, ⟨"HVSTAT", 0x1421200#26, 0x3FFFF00#26⟩]

/-- The 4 rows of mask 0x3000000; the two default rows come after every register row (R82). -/
def kindRows : List OpcodeRow :=
  [⟨"TICK", 0x0000000#26, 0x3000000#26⟩, ⟨"READ_OTHER", 0x1000000#26, 0x3000000#26⟩,
   ⟨"WRITE_OTHER", 0x2000000#26, 0x3000000#26⟩, ⟨"RESET", 0x3000000#26, 0x3000000#26⟩]

/-- The spec's mnemonic of an operation (R84). -/
def Instr.mnemonic : Instr → String
  | .tilemap0 _ => "TILEMAP0"
  | .tilemap1 _ => "TILEMAP1"
  | .tilemap2 _ => "TILEMAP2"
  | .tilemap3 _ => "TILEMAP3"
  | .chrbase01 _ => "CHRBASE01"
  | .chrbase23 _ => "CHRBASE23"
  | .vportctrl _ => "VPORTCTRL"
  | .vaddrl _ => "VADDRL"
  | .vaddrh _ => "VADDRH"
  | .vdatal _ => "VDATAL"
  | .vdatah _ => "VDATAH"
  | .cgaddr _ => "CGADDR"
  | .cgdata _ => "CGDATA"
  | .nmien _ => "NMIEN"
  | .nmistat => "NMISTAT"
  | .hvstat => "HVSTAT"
  | .writeOther _ _ => "WRITE_OTHER"
  | .readOther _ => "READ_OTHER"
  | .tick => "TICK"
  | .reset => "RESET"

end Sys2Proof
end

