-- ==== Sys2Proof/Config.lean ====
section
/-! DEFINITION. The configuration record of 00_scope R8 and R10 (one field per row) and the free
values of R11. The values the model runs at are `Machine.cfg` in Machine/Params.lean. -/

namespace Sys2Proof

/-- `CFG`: one field for each row of 00_scope R8 (what the source fixes) and R10 (what the spec
decides). The rows that are widths or sizes of stored things are also the widths of the types in
Word.lean and Machine/State.lean (log 10); `Laws.cfg_widths_are_the_types` says that they agree. -/
structure Config where
  /-- R8: largest value of `cycle`. -/
  cycleMax : Nat
  /-- R8: first scanline of the non-visible region. -/
  vblankLine : Nat
  /-- R8: scanlines per frame. -/
  lines : Nat
  /-- R8: hblank is on from this cycle to the end of the line. -/
  hblStart : Nat
  /-- R8: hblank is on from the start of the line to this cycle. -/
  hblEnd : Nat
  /-- R8: entries of LayerConfig. -/
  nLayers : Nat
  /-- R8: columns of the tile grid. -/
  gridW : Nat
  /-- R8: rows of the tile grid. -/
  gridH : Nat
  /-- R8: pixels of a tile, across. -/
  tileW : Nat
  /-- R8: pixels of a tile, down. -/
  tileH : Nat
  /-- R8: bytes of a CHR tile. -/
  tileBytes : Nat
  /-- R8: bytes of a tilemap entry. -/
  entryBytes : Nat
  /-- R8: bits per pixel, and bytes of a CHR row. -/
  bpp : Nat
  /-- R8: width of `vramAddress`. -/
  vaddrBits : Nat
  /-- R8: frame buffers. -/
  nBuffers : Nat
  /-- R8: bits of a pixel. -/
  pixelBits : Nat
  /-- R8: bits of a bus address. -/
  busAddrBits : Nat
  /-- R8: bits of a bus datum. -/
  busDataBits : Nat
  /-- R10, D6: bytes of VRAM. -/
  vramSize : Nat
  /-- R10, D7: bytes of CGRAM. -/
  cgramSize : Nat
  /-- R10, D7: width of `cgramAddress`. -/
  cgaddrBits : Nat
  /-- R10, D8: bytes of OAM. -/
  oamSize : Nat
  /-- R10, D5: width of `frameCount`. -/
  frameBits : Nat
  /-- R10, D10: left shift of the tilemap base field. -/
  tilemapShift : Nat
  /-- R10, D11: left shift of a CHR base nibble. -/
  chrShift : Nat
  /-- R10, D13: lowest bit of the increment code. -/
  incLsb : Nat
  /-- R10, D13: lowest bit of the remap mode. -/
  remapLsb : Nat
  /-- R10, D13: the bit that selects the incrementing half. -/
  inchiBit : Nat
  /-- R10, D12: the horizontal mirroring bit. -/
  hmirrorBit : Nat
  /-- R10, D12: the vertical mirroring bit. -/
  vmirrorBit : Nat
  /-- R10, D15: vblank's bit in the 0x4212 value. -/
  vblBit : Nat
  /-- R10, D15: hblank's bit in the 0x4212 value. -/
  hblBit : Nat
  /-- R10, D17: lowest bit, in an entry's second byte, of tile-index bits 9:8. -/
  tileidxHiLsb : Nat
  /-- R10, D17: lowest bit, in an entry's second byte, of the palette group. -/
  palLsb : Nat
  /-- R10, D18: the first byte of a CHR row gives colour-index bit 0. -/
  plane0IsLsb : Bool
deriving DecidableEq, Repr

namespace Config

/-- R9: pixels of a frame-buffer row. -/
def fbW (c : Config) : Nat := c.gridW * c.tileW

/-- R9: rows of a frame buffer. -/
def fbH (c : Config) : Nat := c.gridH * c.tileH

/-- R9: pixels of a frame buffer. -/
def fbPixels (c : Config) : Nat := c.fbW * c.fbH

/-- R9: TICKs of a scanline. -/
def ticksPerLine (c : Config) : Nat := c.cycleMax + 1

/-- R9: TICKs of a frame. -/
def ticksPerFrame (c : Config) : Nat := c.ticksPerLine * c.lines

/-- R9: TICKs from reset to the first frame event. -/
def ticksToVblank (c : Config) : Nat := c.ticksPerLine * c.vblankLine

/-- `OPENBUS_4210` (00_scope R11, D14): bits 6:0 of a READ of 0x4210. A free value, one constant for a
whole run (log 7). -/
opaque openBus4210 : BitVec 7

/-- `INIT_VRAM` (00_scope R11, 10_state R43): the byte at an address after the `draw`-th drawing of the
memories. A free value (log 5). -/
opaque initVram (draw : Nat) (a : Nat) : Byte

/-- `INIT_CGRAM` (00_scope R11, 10_state R43). A free value (log 5). -/
opaque initCgram (draw : Nat) (a : Nat) : Byte

/-- `INIT_OAM` (00_scope R11, 10_state R43). A free value (log 5). -/
opaque initOam (draw : Nat) (a : Nat) : Byte

/-- `INIT_FB0` and `INIT_FB1` (00_scope R11, 10_state R43): the pixel at an index of a buffer. A free
value (log 5). -/
opaque initFb (draw : Nat) (b : BufferIndex) (i : Nat) : Pixel

/-- What `vo_pixel` shows for a `vo_y` outside the frame: 30_encoding R81 gives the port a value for
`vo_y < 224` only. A free value (log 18). -/
opaque voOutside (x y : Byte) : Pixel

end Config

end Sys2Proof
end

