-- ==== Sys2Proof/Machine/State.lean ====
section
/-! DEFINITION. The state of the block (10_state R20), as plain data, the reasons a step stops, and the
state after reset (10_state R42, R43). -/

namespace Sys2Proof.Machine

/-- Why the machine stops with a fault: never. The block raises no exception, fault or error, on any
operation, in any state (60_exceptions R210), so this type has no constructor. Safe. -/
inductive Fault : Type
deriving DecidableEq, Repr

/-- What the model gives no meaning. -/
inductive Refusal where
  /-- Raised by an arm of `exec` that has no meaning yet; no arm raises it. Safe. -/
  | notModelled (mnemonic : String)
  /-- Raised by `step` when the input ports of one step assert two or more events: 00_scope R14 and D26
  give such a step no meaning (log 2). Safe. -/
  | simultaneousEvents
  /-- Raised by `State.voRead`, never by a step, for a buffer that is not the one handed over: 60_exceptions R226 and
  U11 refuse such a read (log 4). Safe. -/
  | bufferNotHandedOver
deriving DecidableEq, Repr

/-- One LayerConfig entry (10_state R26). -/
structure LayerConfig where
  tilemapAddress : BitVec 16
  chrAddress : BitVec 16
  horizontalMirroring : Bool
  verticalMirroring : Bool
deriving DecidableEq, Repr

/-- The output events of a step (00_scope R14). -/
inductive OutEvent where
  /-- To the event dispatcher (44_frame_dispatch R202). -/
  | frameReady
  /-- To the video output (R204). -/
  | frameHandoff (buf : BufferIndex) (frame : FrameNumber)
  /-- To the CPU core (R205). -/
  | nmi
deriving DecidableEq, Repr

/-- What one step puts out: its events in order and, for a READ, the byte (00_scope R14). -/
structure Output where
  events : List OutEvent
  readData : Option Byte
deriving DecidableEq, Repr

/-- The input ports of one step (30_encoding R81). -/
structure Ports where
  reset : Bool
  tick : Bool
  busRd : Bool
  busWr : Bool
  busAddr : BusAddr
  busWdata : Byte
deriving DecidableEq, Repr

/-- A byte memory: the bytes that have been stored, addresses strictly rising (log 6). -/
abbrev Memory := List Host.Cell

/-- A frame buffer: the pixels that have been stored, indices `y*256 + x` strictly rising (log 6). -/
abbrev FrameMemory := List (Nat × Pixel)

/-- The state. The first twenty fields are 10_state R20's; the next two are the output ports that hold their value
from step to step (30_encoding R81, log 4); the last four are the model's own (log 1, log 3, log 4, log 5). -/
structure State where
  /-- 10_state R21. -/
  cycle : BitVec 9
  /-- 10_state R22. -/
  scanline : BitVec 9
  /-- 10_state R23. -/
  frameCount : FrameNumber
  /-- 10_state R24. -/
  nmiFlag : Bool
  /-- 10_state R25. -/
  nmiEnable : Bool
  /-- 10_state R26, `layer[0]`. -/
  layer0 : LayerConfig
  /-- 10_state R26, `layer[1]`. -/
  layer1 : LayerConfig
  /-- 10_state R26, `layer[2]`. -/
  layer2 : LayerConfig
  /-- 10_state R26, `layer[3]`. -/
  layer3 : LayerConfig
  /-- 10_state R28. -/
  vramAddress : VramAddr
  /-- 10_state R29: the decoded amount, not its code. -/
  vramIncrement : BitVec 8
  /-- 10_state R30: stored, read by nothing. -/
  vramRemapMode : BitVec 2
  /-- 10_state R31. -/
  incrementOnHighByteWrite : Bool
  /-- 10_state R32. -/
  cgramAddress : CgramAddr
  /-- 10_state R33. -/
  vram : Memory
  /-- 10_state R34: read and written by nothing. -/
  oam : Memory
  /-- 10_state R35. -/
  cgram : Memory
  /-- 10_state R36, `FB[0]`. -/
  fb0 : FrameMemory
  /-- 10_state R36, `FB[1]`. -/
  fb1 : FrameMemory
  /-- 10_state R38. -/
  active : BufferIndex
  /-- The port `vo_buf`, held until the next handoff (30_encoding R81). -/
  voBuf : BufferIndex
  /-- The port `vo_frame`, held until the next handoff (30_encoding R81). -/
  voFrame : FrameNumber
  /-- Whether a frame has ever been handed over: before that the video output has no buffer it may read
  (60_exceptions R226, log 4). -/
  handedOver : Bool
  /-- What the last step put out (log 3). -/
  out : Output
  /-- How often the memories have been drawn afresh (10_state R43, log 5). -/
  draws : Nat
  /-- The input ports of the coming steps, oldest first (log 1). -/
  inputs : List Ports
deriving DecidableEq, Repr

/-- A LayerConfig entry after reset (10_state R42). -/
def LayerConfig.cleared : LayerConfig := ⟨0#16, 0#16, false, false⟩

/-- The state after reset (10_state R42, R43): every register as the table says, no byte and no pixel
stored yet, the held ports at the value of log 4, no event to come. -/
def State.reset : State where
  cycle := 0#9
  scanline := 0#9
  frameCount := 0#32
  nmiFlag := false
  nmiEnable := false
  layer0 := LayerConfig.cleared
  layer1 := LayerConfig.cleared
  layer2 := LayerConfig.cleared
  layer3 := LayerConfig.cleared
  vramAddress := 0#15
  vramIncrement := 1#8
  vramRemapMode := 0#2
  incrementOnHighByteWrite := false
  cgramAddress := 0#9
  vram := []
  oam := []
  cgram := []
  fb0 := []
  fb1 := []
  active := 0#1
  voBuf := 0#1
  voFrame := 0#32
  handedOver := false
  out := ⟨[], none⟩
  draws := 0
  inputs := []

end Sys2Proof.Machine
end

