-- ==== Sys2Proof/Machine/Bank.lean ====
section
/-! DEFINITION. Memories as sorted lists of what has been stored: looking a place up, storing into it, and
the canonical form (log 6). Used for bytes (VRAM, CGRAM, OAM) and for pixels (the frame buffers). -/

namespace Sys2Proof.Machine

/-- What is stored at a place, if anything is. -/
def Bank.lookup {α : Type} : List (Nat × α) → Nat → Option α
  | [], _ => none
  | (b, w) :: rest, a => if a = b then some w else Bank.lookup rest a

/-- Stores a value at a place, keeping the places in order. -/
def Bank.store {α : Type} : List (Nat × α) → Nat → α → List (Nat × α)
  | [], a, v => [(a, v)]
  | (b, w) :: rest, a, v =>
    if a < b then (a, v) :: (b, w) :: rest
    else if a = b then (a, v) :: rest
    else (b, w) :: Bank.store rest a v

/-- The places rise strictly, the first being at least `lo`, and all are below `size`. -/
def Bank.risingFrom {α : Type} (lo size : Nat) : List (Nat × α) → Bool
  | [] => true
  | (a, _) :: rest => decide (lo ≤ a) && decide (a < size) && Bank.risingFrom (a + 1) size rest

/-- The canonical form of a bank of `size` places. -/
def Bank.wf {α : Type} (size : Nat) (m : List (Nat × α)) : Bool := Bank.risingFrom 0 size m

/-- The canonical form of a byte memory of `size` bytes. -/
def Memory.wf (size : Nat) (m : Memory) : Bool := Bank.wf size m

end Sys2Proof.Machine
end

