-- ==== Sys2Proof/Machine/Params.lean ====
section
/-! DEFINITION. The values the model runs at: the rows of 00_scope R8 and the defaults of R10. A corrected
literal changes one line here. -/

namespace Sys2Proof.Machine

/-- 00_scope R8 (the source's literals) and R10 (the spec's defaults; log 9, log 10, log 11, log 21,
log 22). -/
def cfg : Config where
  cycleMax := 340
  vblankLine := 225
  lines := 260
  hblStart := 0x121
  hblEnd := 0x15
  nLayers := 4
  gridW := 32
  gridH := 28
  tileW := 8
  tileH := 8
  tileBytes := 16
  entryBytes := 2
  bpp := 2
  vaddrBits := 15
  nBuffers := 2
  pixelBits := 16
  busAddrBits := 16
  busDataBits := 8
  vramSize := 65536
  cgramSize := 512
  cgaddrBits := 9
  oamSize := 544
  frameBits := 32
  tilemapShift := 11
  chrShift := 13
  incLsb := 0
  remapLsb := 2
  inchiBit := 7
  hmirrorBit := 0
  vmirrorBit := 1
  vblBit := 7
  hblBit := 6
  tileidxHiLsb := 6
  palLsb := 2
  plane0IsLsb := true

end Sys2Proof.Machine
end

