-- ==== Sys2Proof/Machine/Operands.lean ====
section
/-! DEFINITION. Field assembly: what the block makes of a byte written to a register (30_encoding R95) and
of the bytes the renderer reads (R96, R97; 43_render_pipeline R182 to R186). Each function takes the
configuration record, so that a claim can be made for other values of it. -/

namespace Sys2Proof.Machine

/-- `v[lo+n-1:lo]` (00_scope R12). -/
def field (v : Byte) (lo n : Nat) : BitVec n := v.extractLsb' lo n

/-- `TM_BASE` (30_encoding R95). -/
def tmBase (c : Config) (v : Byte) : BitVec 16 :=
  BitVec.ofNat 16 ((field v 2 6).toNat <<< c.tilemapShift)

/-- `TM_HMIRROR` (R95). -/
def tmHMirror (c : Config) (v : Byte) : Bool := v.getLsbD c.hmirrorBit

/-- `TM_VMIRROR` (R95). -/
def tmVMirror (c : Config) (v : Byte) : Bool := v.getLsbD c.vmirrorBit

/-- `CHR_LO` (R95). -/
def chrLo (c : Config) (v : Byte) : BitVec 16 := BitVec.ofNat 16 ((field v 0 4).toNat <<< c.chrShift)

/-- `CHR_HI` (R95). -/
def chrHi (c : Config) (v : Byte) : BitVec 16 := BitVec.ofNat 16 ((field v 4 4).toNat <<< c.chrShift)

/-- `INC_DECODE` (R95): codes 2 and 3 both give 128. -/
def incDecode (c : Config) (v : Byte) : BitVec 8 :=
  if field v c.incLsb 2 = 0#2 then 1#8
  else if field v c.incLsb 2 = 1#2 then 32#8
  else 128#8

/-- `REMAP` (R95). -/
def remap (c : Config) (v : Byte) : BitVec 2 := field v c.remapLsb 2

/-- `INCHI` (R95). -/
def incHi (c : Config) (v : Byte) : Bool := v.getLsbD c.inchiBit

/-- `CG_PTR` (R95). -/
def cgPtr (v : Byte) : CgramAddr := v.setWidth 9 <<< 1

/-- `NMI_EN` (R95). -/
def nmiEn (v : Byte) : Bool := v.getLsbD 7

/-- `vramAddress` with its low 8 bits replaced (41_register_writes R148). -/
def withAddrLow (a : VramAddr) (v : Byte) : VramAddr := (a &&& 0x7F00#15) ||| v.setWidth 15

/-- `vramAddress` with its high 7 bits replaced; bit 7 of the byte is dropped (R149). -/
def withAddrHigh (a : VramAddr) (v : Byte) : VramAddr :=
  (a &&& 0x00FF#15) ||| ((field v 0 7).setWidth 15 <<< 8)

/-- The address after an increment, modulo 2^15 (R150, R151; D9). -/
def incrementedAddr (a : VramAddr) (inc : BitVec 8) : VramAddr := a + inc.setWidth 15

/-- `TileIndex` (30_encoding R96). -/
def tileIndex (c : Config) (b0 b1 : Byte) : BitVec 10 := field b1 c.tileidxHiLsb 2 ++ b0

/-- `PalGroup` (R96). -/
def palGroup (c : Config) (b1 : Byte) : BitVec 3 := field b1 c.palLsb 3

/-- `ColourIndex` (R97): the bit of column `px` is bit `7 - px` of each plane. -/
def colourIndex (c : Config) (p0 p1 : Byte) (px : Nat) : BitVec 2 :=
  let q0 := BitVec.ofBool (p0.getLsbD (c.tileW - 1 - px))
  let q1 := BitVec.ofBool (p1.getLsbD (c.tileW - 1 - px))
  if c.plane0IsLsb then q1 ++ q0 else q0 ++ q1

/-- `EntryAddr` (43_render_pipeline R182), a natural number. -/
def entryAddr (c : Config) (base : BitVec 16) (row col : Nat) : Nat :=
  base.toNat + (row * c.gridW + col) * c.entryBytes

/-- `ChrAddr` (R184), a natural number. -/
def chrAddr (c : Config) (base : BitVec 16) (t : BitVec 10) : Nat := base.toNat + t.toNat * c.tileBytes

/-- `RowAddr` (R184): the bitplane-0 byte of row `py`. -/
def rowAddr (c : Config) (base : BitVec 16) (t : BitVec 10) (py : Nat) : Nat :=
  chrAddr c base t + c.bpp * py

/-- `PalOffset` (R186). -/
def palOffset (g : BitVec 3) (ci : BitVec 2) : Nat :=
  if ci = 0#2 then 0 else (g.toNat * 4 + ci.toNat) * 2

end Sys2Proof.Machine
end

