-- ==== Sys2Proof/Machine/Ops.lean ====
section
/-! DEFINITION. The named operations over memory, registers and outputs that the meanings share
(20_memory R52 to R58, 00_scope R13, 44_frame_dispatch R203, R205). The block takes no exception
(60_exceptions R210); its one interrupt is the pulse it sends, `State.interruptDispatch`. -/

namespace Sys2Proof.Machine

/-- The outputs at the start of a step: no event, no byte (00_scope R14). -/
def State.quiet (s : State) : State := { s with out := ⟨[], none⟩ }

/-- `emit E` (00_scope R13): appends an event to those of the current step. -/
def State.emit (s : State) (e : OutEvent) : State :=
  { s with out := { s.out with events := s.out.events ++ [e] } }

/-- The outcome of a READ: the byte goes out, nothing else changes (42_register_reads R170). -/
def State.answer (s : State) (b : Byte) : State := { s with out := ⟨[], some b⟩ }

/-- The events still to come (log 1). -/
def State.withInputs (s : State) (rest : List Ports) : State := { s with inputs := rest }

/-- `VramRead(a)` (20_memory R52); a byte nothing has stored is the free value `INIT_VRAM` (log 5). -/
def State.vramRead (s : State) (a : Nat) : Byte :=
  (Bank.lookup s.vram (a % cfg.vramSize)).getD (Config.initVram s.draws (a % cfg.vramSize))

/-- `VramWrite(a, v)` (R52). -/
def State.vramWrite (s : State) (a : Nat) (v : Byte) : State :=
  { s with vram := Bank.store s.vram (a % cfg.vramSize) v }

/-- `CgRead(a)` (R53). -/
def State.cgRead (s : State) (a : Nat) : Byte :=
  (Bank.lookup s.cgram (a % cfg.cgramSize)).getD (Config.initCgram s.draws (a % cfg.cgramSize))

/-- `CgWrite(a, v)` (R53). -/
def State.cgWrite (s : State) (a : Nat) (v : Byte) : State :=
  { s with cgram := Bank.store s.cgram (a % cfg.cgramSize) v }

/-- `CgRead16(a)` (R58): little-endian. -/
def State.cgRead16 (s : State) (a : Nat) : Pixel := s.cgRead (a + 1) ++ s.cgRead a

/-- A byte of OAM; no operation reads it (R54). -/
def State.oamRead (s : State) (a : Nat) : Byte :=
  (Bank.lookup s.oam (a % cfg.oamSize)).getD (Config.initOam s.draws (a % cfg.oamSize))

/-- `FB[b]` (10_state R36). -/
def State.fb (s : State) (b : BufferIndex) : FrameMemory := if b = 0#1 then s.fb0 else s.fb1

/-- `FB[b]` replaced. -/
def State.setFb (s : State) (b : BufferIndex) (m : FrameMemory) : State :=
  if b = 0#1 then { s with fb0 := m } else { s with fb1 := m }

/-- The place of pixel (x, y) in a buffer (20_memory R55). -/
def pixelIndex (x y : Nat) : Nat := y * cfg.fbW + x

/-- `FbRead(b, x, y)` (R55). -/
def State.fbRead (s : State) (b : BufferIndex) (x y : Nat) : Pixel :=
  (Bank.lookup (s.fb b) (pixelIndex x y)).getD (Config.initFb s.draws b (pixelIndex x y))

/-- `FbWrite(b, x, y, c)` (R55). -/
def State.fbWrite (s : State) (b : BufferIndex) (x y : Nat) (c : Pixel) : State :=
  s.setFb b (Bank.store (s.fb b) (pixelIndex x y) c)

/-- The tilemap register write of a layer: base and both mirroring flags, not the CHR base (41_register_writes
R141). -/
def LayerConfig.withTilemap (l : LayerConfig) (v : Byte) : LayerConfig :=
  { l with
    tilemapAddress := tmBase cfg v
    horizontalMirroring := tmHMirror cfg v
    verticalMirroring := tmVMirror cfg v }

/-- The CHR base of a layer (R145). -/
def LayerConfig.withChr (l : LayerConfig) (base : BitVec 16) : LayerConfig := { l with chrAddress := base }

/-- The increment of the data port, when this write is the one the flag selects (R150, R151). -/
def State.stepVramAddress (s : State) (selected : Bool) : State :=
  { s with
    vramAddress := if selected then incrementedAddr s.vramAddress s.vramIncrement else s.vramAddress }

/-- The palette pointer after a data write, modulo 512 (R153; D7). -/
def State.stepCgramAddress (s : State) : State := { s with cgramAddress := s.cgramAddress + 1#9 }

/-- Interrupt dispatch (44_frame_dispatch R205): the pulse, when enabled. Nothing is saved, masked or
remembered (60_exceptions R218). -/
def State.interruptDispatch (s : State) : State := if s.nmiEnable then s.emit .nmi else s

end Sys2Proof.Machine
end

