-- ==== Sys2Proof/Machine/Control.lean ====
section
/-! DEFINITION. The interrupt enable (41_register_writes R154), the default write (R155) and RESET
(70_reset_and_hazards R240). -/

namespace Sys2Proof.Machine

/-- NMIEN, WRITE 0x4200 (R154): never emits an event (60_exceptions R216). -/
def execNmien (v : Byte) (s : State) : Host.Outcome State Fault Refusal :=
  .next (State.quiet { s with nmiEnable := nmiEn v })

/-- WRITE_OTHER (R155): silently ignored. -/
def execWriteOther (_a : BusAddr) (_v : Byte) (s : State) : Host.Outcome State Fault Refusal :=
  .next s.quiet

/-- RESET (70_reset_and_hazards R240): every register as after reset, the memories drawn afresh (10_state
R43, log 5); the held output ports are no register of R42 and hold until the next handoff (30_encoding R81, log 4); the
events still to come are the environment's and stay (log 1). -/
def execReset (s : State) : Host.Outcome State Fault Refusal :=
  .next { State.reset with
    voBuf := s.voBuf
    voFrame := s.voFrame
    handedOver := s.handedOver
    draws := s.draws + 1
    inputs := s.inputs }

end Sys2Proof.Machine
end

