-- ==== Sys2Proof/Machine/Layers.lean ====
section
/-! DEFINITION. The layer configuration registers (41_register_writes R141 to R146). -/

namespace Sys2Proof.Machine

/-- TILEMAP0, WRITE 0x2107 (R141). -/
def execTilemap0 (v : Byte) (s : State) : Host.Outcome State Fault Refusal :=
  .next (State.quiet { s with layer0 := s.layer0.withTilemap v })

/-- TILEMAP1, WRITE 0x2108 (R142). -/
def execTilemap1 (v : Byte) (s : State) : Host.Outcome State Fault Refusal :=
  .next (State.quiet { s with layer1 := s.layer1.withTilemap v })

/-- TILEMAP2, WRITE 0x2109 (R143). -/
def execTilemap2 (v : Byte) (s : State) : Host.Outcome State Fault Refusal :=
  .next (State.quiet { s with layer2 := s.layer2.withTilemap v })

/-- TILEMAP3, WRITE 0x210A (R144). -/
def execTilemap3 (v : Byte) (s : State) : Host.Outcome State Fault Refusal :=
  .next (State.quiet { s with layer3 := s.layer3.withTilemap v })

/-- CHRBASE01, WRITE 0x210B (R145): both layers of the pair, always. -/
def execChrbase01 (v : Byte) (s : State) : Host.Outcome State Fault Refusal :=
  .next (State.quiet { s with
    layer0 := s.layer0.withChr (chrLo cfg v)
    layer1 := s.layer1.withChr (chrHi cfg v) })

/-- CHRBASE23, WRITE 0x210C (R146). -/
def execChrbase23 (v : Byte) (s : State) : Host.Outcome State Fault Refusal :=
  .next (State.quiet { s with
    layer2 := s.layer2.withChr (chrLo cfg v)
    layer3 := s.layer3.withChr (chrHi cfg v) })

end Sys2Proof.Machine
end

