-- ==== Sys2Proof/Machine/PalettePort.lean ====
section
/-! DEFINITION. The palette port (41_register_writes R152, R153). -/

namespace Sys2Proof.Machine

/-- CGADDR, WRITE 0x2121 (R152). -/
def execCgaddr (v : Byte) (s : State) : Host.Outcome State Fault Refusal :=
  .next (State.quiet { s with cgramAddress := cgPtr v })

/-- CGDATA, WRITE 0x2122 (R153): stores at once, with no low/high latch (D32), and always increments. -/
def execCgdata (v : Byte) (s : State) : Host.Outcome State Fault Refusal :=
  .next (s.quiet.cgWrite s.cgramAddress.toNat v).stepCgramAddress

end Sys2Proof.Machine
end

