-- ==== Sys2Proof/Machine/Flags.lean ====
section
/-! DEFINITION. The two derived flags (40_timing_controller R126) and the two status bytes
(42_register_reads R171, R172). -/

namespace Sys2Proof.Machine

/-- `VBlank` (R126). -/
def vblank (c : Config) (scanline : BitVec 9) : Bool := decide (c.vblankLine ≤ scanline.toNat)

/-- `HBlank` (R126). -/
def hblank (c : Config) (cycle : BitVec 9) : Bool :=
  decide (c.hblStart ≤ cycle.toNat) || decide (cycle.toNat ≤ c.hblEnd)

/-- The value of a READ of 0x4210: `nmiFlag` and then the open-bus bits (R171; log 7). -/
def nmiStatByte (nmiFlag : Bool) : Byte := BitVec.ofBool nmiFlag ++ Config.openBus4210

/-- One flag at its bit of a status byte, every other bit 0. -/
def flagAt (b : Bool) (bit : Nat) : Byte := (BitVec.ofBool b).setWidth 8 <<< bit

/-- The value of a READ of 0x4212 (R172). -/
def hvStatByte (c : Config) (cycle scanline : BitVec 9) : Byte :=
  flagAt (vblank c scanline) c.vblBit ||| flagAt (hblank c cycle) c.hblBit

end Sys2Proof.Machine
end

