-- ==== Sys2Proof/Machine/Reads.lean ====
section
/-! DEFINITION. The reads (42_register_reads R170 to R173). -/

namespace Sys2Proof.Machine

/-- NMISTAT, READ 0x4210 (R171): the flag is read and left as it is. -/
def execNmistat (s : State) : Host.Outcome State Fault Refusal := .next (s.answer (nmiStatByte s.nmiFlag))

/-- HVSTAT, READ 0x4212 (R172). -/
def execHvstat (s : State) : Host.Outcome State Fault Refusal :=
  .next (s.answer (hvStatByte cfg s.cycle s.scanline))

/-- READ_OTHER (R173): a defined zero. -/
def execReadOther (_a : BusAddr) (s : State) : Host.Outcome State Fault Refusal := .next (s.answer 0#8)

end Sys2Proof.Machine
end

