-- ==== Sys2Proof/Machine/Render.lean ====
section
/-! DEFINITION. RenderFrame (43_render_pipeline R180 to R192). The model runs the function of R191;
`State.renderLoop` is the loop nest of R180 as written, which an obligation holds equal to it. -/

namespace Sys2Proof.Machine

/-- The colour of pixel (x, y) (R191): tilemap entry, CHR row, colour index, palette. -/
def State.pixelAt (s : State) (x y : Nat) : Pixel :=
  let e := entryAddr cfg s.layer0.tilemapAddress (y / cfg.tileH) (x / cfg.tileW)
  let b0 := s.vramRead e
  let b1 := s.vramRead (e + 1)
  let r := rowAddr cfg s.layer0.chrAddress (tileIndex cfg b0 b1) (y % cfg.tileH)
  let ci := colourIndex cfg (s.vramRead r) (s.vramRead (r + 1)) (x % cfg.tileW)
  s.cgRead16 (palOffset (palGroup cfg b1) ci)

/-- A whole frame, every pixel once (R188). -/
def State.renderedFrame (s : State) : FrameMemory :=
  (List.range cfg.fbPixels).map fun i => (i, s.pixelAt (i % cfg.fbW) (i / cfg.fbW))

/-- RenderFrame: writes `FB[active]` and nothing else (R180, R191). -/
def State.renderFrame (s : State) : State := s.setFb s.active s.renderedFrame

/-- One row of one tile: the innermost loop of R180. -/
def State.renderTileRow (s : State) (row col py : Nat) (g : BitVec 3) (p0 p1 : Byte) : State :=
  (List.range cfg.tileW).foldl
    (fun s px =>
      s.fbWrite s.active (col * cfg.tileW + px) (row * cfg.tileH + py)
        (s.cgRead16 (palOffset g (colourIndex cfg p0 p1 px)))) s

/-- One tile: the two inner loops of R180. -/
def State.renderTile (s : State) (row col : Nat) : State :=
  let e := entryAddr cfg s.layer0.tilemapAddress row col
  let b0 := s.vramRead e
  let b1 := s.vramRead (e + 1)
  let t := tileIndex cfg b0 b1
  (List.range cfg.tileH).foldl
    (fun s py =>
      let r := rowAddr cfg s.layer0.chrAddress t py
      s.renderTileRow row col py (palGroup cfg b1) (s.vramRead r) (s.vramRead (r + 1))) s

/-- The loop nest of R180. -/
def State.renderLoop (s : State) : State :=
  (List.range cfg.gridH).foldl
    (fun s row => (List.range cfg.gridW).foldl (fun s col => s.renderTile row col) s) s

end Sys2Proof.Machine
end

