-- ==== Sys2Proof/Machine/FrameDispatch.lean ====
section
/-! DEFINITION. FrameDispatch (44_frame_dispatch R200 to R206). -/

namespace Sys2Proof.Machine

/-- The swap (R203): an index flips, no pixel moves. -/
def State.swapBuffers (s : State) : State := { s with active := 1#1 - s.active }

/-- The handoff (R204): the event, and the ports that hold its two values until the next one (30_encoding
R81). -/
def State.handOver (s : State) (done : BufferIndex) : State :=
  State.emit { s with voBuf := done, voFrame := s.frameCount, handedOver := true }
    (.frameHandoff done s.frameCount)

/-- FrameDispatch (R200): render, `FrameReady`, swap, `FrameHandoff` of the buffer just rendered (C2). -/
def State.frameDispatch (s : State) : State :=
  ((s.renderFrame.emit .frameReady).swapBuffers).handOver s.active

end Sys2Proof.Machine
end

