-- ==== Sys2Proof/Machine/Timing.lean ====
section
/-! DEFINITION. TICK (40_timing_controller R120 to R125, R129). -/

namespace Sys2Proof.Machine

/-- The first threshold (R123): the flag, the frame, the interrupt, in that order (D4, log 13). -/
def State.enterVblank (s : State) : State :=
  { s with nmiFlag := true }.frameDispatch.interruptDispatch

/-- The second threshold (R124). -/
def State.wrapFrame (s : State) : State :=
  { s with nmiFlag := false, scanline := 0#9, frameCount := s.frameCount + 1#32 }

/-- The first position of a scanline (R122). -/
def State.startLine (s : State) : State := { s with cycle := 0#9 }

/-- The next position of a scanline (R121). -/
def State.nextCycle (s : State) : State := { s with cycle := s.cycle + 1#9 }

/-- `scanline` takes a value (R120). -/
def State.toScanline (s : State) (n : Nat) : State := { s with scanline := BitVec.ofNat 9 n }

/-- The end of a scanline (R122): both thresholds are tested on the value `scanline` takes (R125). -/
def State.endLine (s : State) : State :=
  let n := s.scanline.toNat + 1
  let s1 := if n = cfg.vblankLine then s.startLine.enterVblank else s.startLine
  if n = cfg.lines then s1.wrapFrame else s1.toScanline n

/-- TICK on the state (R120). -/
def State.advance (s : State) : State :=
  if s.cycle.toNat = cfg.cycleMax then s.quiet.endLine else s.quiet.nextCycle

/-- TICK (R120). -/
def execTick (s : State) : Host.Outcome State Fault Refusal := .next s.advance

end Sys2Proof.Machine
end

