-- ==== Sys2Proof/Machine/VramPort.lean ====
section
/-! DEFINITION. The video-RAM port (41_register_writes R147 to R151). -/

namespace Sys2Proof.Machine

/-- VPORTCTRL, WRITE 0x2115 (R147): the three fields are written together. -/
def execVportctrl (v : Byte) (s : State) : Host.Outcome State Fault Refusal :=
  .next (State.quiet { s with
    vramIncrement := incDecode cfg v
    vramRemapMode := remap cfg v
    incrementOnHighByteWrite := incHi cfg v })

/-- VADDRL, WRITE 0x2116 (R148). -/
def execVaddrl (v : Byte) (s : State) : Host.Outcome State Fault Refusal :=
  .next (State.quiet { s with vramAddress := withAddrLow s.vramAddress v })

/-- VADDRH, WRITE 0x2117 (R149). -/
def execVaddrh (v : Byte) (s : State) : Host.Outcome State Fault Refusal :=
  .next (State.quiet { s with vramAddress := withAddrHigh s.vramAddress v })

/-- VDATAL, WRITE 0x2118 (R150): stores at the address as it was, then increments when the flag is 0. -/
def execVdatal (v : Byte) (s : State) : Host.Outcome State Fault Refusal :=
  .next ((s.quiet.vramWrite (2 * s.vramAddress.toNat) v).stepVramAddress (!s.incrementOnHighByteWrite))

/-- VDATAH, WRITE 0x2119 (R151): stores at the address as it was, then increments when the flag is 1. -/
def execVdatah (v : Byte) (s : State) : Host.Outcome State Fault Refusal :=
  .next ((s.quiet.vramWrite (2 * s.vramAddress.toNat + 1) v).stepVramAddress s.incrementOnHighByteWrite)

end Sys2Proof.Machine
end

