-- ==== Sys2Proof/Machine/Dispatch.lean ====
section
/-! DEFINITION. exec: one arm per constructor of Instr. -/

namespace Sys2Proof.Machine

/-- The meaning of one operation on a state. -/
def exec (i : Instr) (s : State) : Host.Outcome State Fault Refusal :=
  match i with
  | .tilemap0 v => Sys2Proof.Machine.execTilemap0 v s
  | .tilemap1 v => Sys2Proof.Machine.execTilemap1 v s
  | .tilemap2 v => Sys2Proof.Machine.execTilemap2 v s
  | .tilemap3 v => Sys2Proof.Machine.execTilemap3 v s
  | .chrbase01 v => Sys2Proof.Machine.execChrbase01 v s
  | .chrbase23 v => Sys2Proof.Machine.execChrbase23 v s
  | .vportctrl v => Sys2Proof.Machine.execVportctrl v s
  | .vaddrl v => Sys2Proof.Machine.execVaddrl v s
  | .vaddrh v => Sys2Proof.Machine.execVaddrh v s
  | .vdatal v => Sys2Proof.Machine.execVdatal v s
  | .vdatah v => Sys2Proof.Machine.execVdatah v s
  | .cgaddr v => Sys2Proof.Machine.execCgaddr v s
  | .cgdata v => Sys2Proof.Machine.execCgdata v s
  | .nmien v => Sys2Proof.Machine.execNmien v s
  | .nmistat => Sys2Proof.Machine.execNmistat s
  | .hvstat => Sys2Proof.Machine.execHvstat s
  | .writeOther a v => Sys2Proof.Machine.execWriteOther a v s
  | .readOther a => Sys2Proof.Machine.execReadOther a s
  | .tick => Sys2Proof.Machine.execTick s
  | .reset => Sys2Proof.Machine.execReset s

end Sys2Proof.Machine
end

