-- ==== Sys2Proof/Machine/Fetch.lean ====
section
/-! DEFINITION. From the input ports of one step to its command word (30_encoding R81, R82), and back. -/

namespace Sys2Proof.Machine

/-- What the input ports of one step carry. -/
inductive PortEvent where
  /-- No event is asserted (R81 "at most one"). -/
  | idle
  /-- Exactly one is. -/
  | command (w : CommandWord)
  /-- Two or more are (00_scope R14, D26). -/
  | clash
deriving DecidableEq, Repr

/-- How many of the four event ports are asserted. -/
def Ports.count (p : Ports) : Nat := p.reset.toNat + p.tick.toNat + p.busRd.toNat + p.busWr.toNat

/-- The kind of the asserted event (R82), when there is exactly one. -/
def Ports.kind (p : Ports) : BitVec 2 :=
  if p.tick then 0#2 else if p.busRd then 1#2 else if p.busWr then 2#2 else 3#2

/-- What the ports carry: nothing, one command word, or more than one event. -/
def Ports.event (p : Ports) : PortEvent :=
  if p.count = 0 then .idle
  else if p.count = 1 then .command (p.kind ++ p.busAddr ++ p.busWdata)
  else .clash

/-- The ports that carry a command word. -/
def Ports.ofWord (w : CommandWord) : Ports where
  reset := w.extractLsb' 24 2 == 3#2
  tick := w.extractLsb' 24 2 == 0#2
  busRd := w.extractLsb' 24 2 == 1#2
  busWr := w.extractLsb' 24 2 == 2#2
  busAddr := w.extractLsb' 8 16
  busWdata := w.extractLsb' 0 8

end Sys2Proof.Machine
end

