-- ==== Sys2Proof/Machine/Step.lean ====
section
/-! DEFINITION. One step: exactly one input event applied to the state (00_scope R14). -/

namespace Sys2Proof.Machine

/-- One step. The ports of the coming step are taken from `inputs` (log 1); with no event asserted the block
holds its state (60_exceptions R230); two events in one step have no meaning (00_scope R14, D26, log 2). -/
def step (s : State) : Host.Outcome State Fault Refusal :=
  match s.inputs with
  | [] => .next s.quiet
  | p :: rest =>
    match p.event with
    | .idle => .next (s.quiet.withInputs rest)
    | .command w => exec (decode w) (s.withInputs rest)
    | .clash => .refused .simultaneousEvents

/-- `s` with the command word `w` presented to the very next step (log 1). A number that is no command word
presents nothing (log 19). -/
def State.withFetchWord (s : State) (_nbits w : Nat) : State :=
  if w < 2 ^ 26 then s.withInputs (Ports.ofWord (BitVec.ofNat 26 w) :: s.inputs) else s

end Sys2Proof.Machine
end

