-- ==== Sys2Proof/Machine/Trace.lean ====
section
/-! DEFINITION. The trace notation of 30_encoding R105 and the pseudo-operations of R106 (log 20). -/

namespace Sys2Proof.Machine

/-- `TICK n` (R106). -/
def tickN (n : Nat) : List Instr := List.replicate n .tick

/-- `VADDR #$hhll` (R106). -/
def vaddr (hh ll : Byte) : List Instr := [.vaddrl ll, .vaddrh hh]

/-- `VWORD #$hhll` (R106, C9). -/
def vword (hh ll : Byte) : List Instr := [.vdatal ll, .vdatah hh]

/-- `CGCOL #$hhll` (R106). -/
def cgcol (hh ll : Byte) : List Instr := [.cgdata ll, .cgdata hh]

/-- The raster position as a number of TICKs from the start of the frame (40_timing_controller R128). -/
def State.framePosition (s : State) : Nat := s.scanline.toNat * cfg.ticksPerLine + s.cycle.toNat

/-- How many TICKs `TOLINE l` is from a state: the least number, at least 1, that brings it to (0, l)
(R106). -/
def tolineCount (s : State) (l : Nat) : Nat :=
  (l * cfg.ticksPerLine + cfg.ticksPerFrame - s.framePosition - 1) % cfg.ticksPerFrame + 1

/-- `TOLINE l` (R106). -/
def toline (s : State) (l : Nat) : List Instr := tickN (tolineCount s l)

/-- One hexadecimal digit. -/
def hexDigit (n : Nat) : Char :=
  ['0', '1', '2', '3', '4', '5', '6', '7', '8', '9', 'A', 'B', 'C', 'D', 'E', 'F'].getD (n % 16) '0'

/-- The `k` low hexadecimal digits of a number, highest first. -/
def hexDigits : Nat → Nat → List Char
  | 0, _ => []
  | k + 1, n => hexDigits k (n / 16) ++ [hexDigit n]

/-- The address of an operation on the bus (R82). -/
def busAddrOf (i : Instr) : BusAddr := wordAddr (encode i)

/-- The line of an operation in the trace notation (R105), as its characters. -/
def traceLine (i : Instr) : List Char :=
  if i.kind = 0#2 then "TICK".toList
  else if i.kind = 3#2 then "RESET".toList
  else if i.kind = 1#2 then "R $".toList ++ hexDigits 4 (busAddrOf i).toNat
  else "W $".toList ++ hexDigits 4 (busAddrOf i).toNat ++ ",#$".toList ++
    hexDigits 2 (wordData (encode i)).toNat

/-- The command word of a trace line as 7 hexadecimal digits (R105). -/
def traceWord (i : Instr) : List Char := hexDigits 7 (encode i).toNat

end Sys2Proof.Machine
end

