-- ==== Sys2Proof/Machine/OutputPorts.lean ====
section
/-! DEFINITION. What the outside sees: GetState (40_timing_controller R127) and the output ports of 30_encoding
R81, as functions of the state (log 24). None of them changes anything. -/

namespace Sys2Proof.Machine

/-- The snapshot of GetState (R127). -/
structure Snapshot where
  cycle : BitVec 9
  scanline : BitVec 9
  frameCount : FrameNumber
deriving DecidableEq, Repr

/-- GetState, that is, `dbg_cycle`, `dbg_scanline`, `dbg_frame` (R127, D29). -/
def State.getState (s : State) : Snapshot := ⟨s.cycle, s.scanline, s.frameCount⟩

/-- `bus_rdata`, valid in the step of a READ. -/
def State.busRdata (s : State) : Option Byte := s.out.readData

/-- `nmi_req`, a one-step pulse. -/
def State.nmiReq (s : State) : Bool := s.out.events.contains .nmi

/-- `frame_ready`, a one-step pulse. -/
def State.frameReadyPulse (s : State) : Bool := s.out.events.contains .frameReady

/-- Whether an event is a `FrameHandoff`. -/
def OutEvent.isHandoff : OutEvent → Bool
  | .frameHandoff _ _ => true
  | .frameReady => false
  | .nmi => false

/-- `vo_valid`, a one-step pulse. -/
def State.voValid (s : State) : Bool := s.out.events.any OutEvent.isHandoff

/-- `vo_pixel` (R81): the pixel of the buffer `vo_buf` names, whatever it is; outside the frame a free value (log
18). The ports `vo_buf` and `vo_frame` are the fields `State.voBuf` and `State.voFrame`. -/
def State.voPixel (s : State) (x y : Byte) : Pixel :=
  if y.toNat < cfg.fbH then s.fbRead s.voBuf x.toNat y.toNat else Config.voOutside x y

/-- A read of a pixel of buffer `b` by the video output: what `vo_pixel` shows when `b` is the buffer last handed
over, refused when it is not (60_exceptions R226, U11, D31). -/
def State.voRead (s : State) (b : BufferIndex) (x y : Byte) : Except Refusal Pixel :=
  if s.handedOver = true ∧ b = s.voBuf then .ok (s.voPixel x y) else .error .bufferNotHandedOver

end Sys2Proof.Machine
end

