-- ==== Sys2Proof/Safety.lean ====
section
/-! DEFINITION. What claims are stated in: runs of operations, the events a run puts out, the frame-event
TICK, and the invariant of every reachable state (10_state R41). -/

namespace Sys2Proof.Machine

/-- Applies operations one after another, stopping where one stops. -/
def runAll : List Instr → State → Host.Outcome State Fault Refusal
  | [], s => .next s
  | i :: rest, s =>
    match exec i s with
    | .next t => runAll rest t
    | .fault f => .fault f
    | .refused r => .refused r

/-- The events a run of operations puts out, in order. -/
def runEvents : List Instr → State → List OutEvent
  | [], _ => []
  | i :: rest, s =>
    match exec i s with
    | .next t => t.out.events ++ runEvents rest t
    | .fault _ => []
    | .refused _ => []

/-- How many TICKs a run holds. -/
def countTicks (is : List Instr) : Nat := is.count .tick

/-- Whether an operation is a READ (30_encoding R82). -/
def isRead (i : Instr) : Bool := i.kind == 1#2

/-- Whether an operation is a WRITE (30_encoding R82). -/
def isWrite (i : Instr) : Bool := i.kind == 2#2

/-- The next TICK takes `scanline` from 224 to 225 (40_timing_controller R123). -/
def State.atVblankEdge (s : State) : Bool := s.cycle.toNat == 340 && s.scanline.toNat == 224

/-- The next TICK wraps the frame (40_timing_controller R124). -/
def State.atFrameWrap (s : State) : Bool := s.cycle.toNat == 340 && s.scanline.toNat == 259

/-- The number of the raster position (40_timing_controller R128). -/
def State.position (s : State) : Nat :=
  (s.frameCount.toNat * 260 + s.scanline.toNat) * 341 + s.cycle.toNat

/-- 10_state R41 (g), for one layer. -/
def LayerConfig.aligned (l : LayerConfig) : Bool :=
  l.tilemapAddress.toNat % 2048 == 0 && l.chrAddress.toNat % 8192 == 0

/-- How many frame events a state has behind it since RESET, modulo 2^32 (10_state R41 (h)). -/
def State.framesHandedOver (s : State) : FrameNumber :=
  if 225 ≤ s.scanline.toNat then s.frameCount + 1#32 else s.frameCount

/-- The invariant of every reachable state: 10_state R41 (a) to (d), (g), (h), what the held output ports
show once a frame has been handed over since RESET (30_encoding R81, log 4), and the canonical form of the five memories
(log 6). R41 (e) and (f) hold by the fields' widths; past the wrap of `frameCount` (h) is D5's (log 10). -/
structure State.Inv (s : State) : Prop where
  cycle_le : s.cycle.toNat ≤ 340
  scanline_lt : s.scanline.toNat < 260
  nmiFlag_iff : s.nmiFlag = decide (225 ≤ s.scanline.toNat)
  increment : s.vramIncrement = 1#8 ∨ s.vramIncrement = 32#8 ∨ s.vramIncrement = 128#8
  aligned : s.layer0.aligned ∧ s.layer1.aligned ∧ s.layer2.aligned ∧ s.layer3.aligned
  active_parity : s.active = s.framesHandedOver.setWidth 1
  handed_over : s.framesHandedOver ≠ 0#32 →
    s.handedOver = true ∧ s.voBuf = 1#1 - s.active ∧ s.voFrame = s.framesHandedOver - 1#32
  vram_wf : Memory.wf 65536 s.vram
  oam_wf : Memory.wf 544 s.oam
  cgram_wf : Memory.wf 512 s.cgram
  fb0_wf : Bank.wf 57344 s.fb0
  fb1_wf : Bank.wf 57344 s.fb1

/-- The canonical form of the memories alone. -/
def State.memoriesWf (s : State) : Bool :=
  Memory.wf 65536 s.vram && Memory.wf 544 s.oam && Memory.wf 512 s.cgram &&
    Bank.wf 57344 s.fb0 && Bank.wf 57344 s.fb1

/-- `s` with the fields that the rule of a WRITE names (41_register_writes R141 to R155) taken from `t`. -/
def State.withNamedFields (i : Instr) (s t : State) : State :=
  match i with
  | .tilemap0 _ => { s with layer0 := { t.layer0 with chrAddress := s.layer0.chrAddress } }
  | .tilemap1 _ => { s with layer1 := { t.layer1 with chrAddress := s.layer1.chrAddress } }
  | .tilemap2 _ => { s with layer2 := { t.layer2 with chrAddress := s.layer2.chrAddress } }
  | .tilemap3 _ => { s with layer3 := { t.layer3 with chrAddress := s.layer3.chrAddress } }
  | .chrbase01 _ =>
    { s with
      layer0 := { s.layer0 with chrAddress := t.layer0.chrAddress }
      layer1 := { s.layer1 with chrAddress := t.layer1.chrAddress } }
  | .chrbase23 _ =>
    { s with
      layer2 := { s.layer2 with chrAddress := t.layer2.chrAddress }
      layer3 := { s.layer3 with chrAddress := t.layer3.chrAddress } }
  | .vportctrl _ =>
    { s with
      vramIncrement := t.vramIncrement
      vramRemapMode := t.vramRemapMode
      incrementOnHighByteWrite := t.incrementOnHighByteWrite }
  | .vaddrl _ => { s with vramAddress := t.vramAddress }
  | .vaddrh _ => { s with vramAddress := t.vramAddress }
  | .vdatal _ => { s with vram := t.vram, vramAddress := t.vramAddress }
  | .vdatah _ => { s with vram := t.vram, vramAddress := t.vramAddress }
  | .cgaddr _ => { s with cgramAddress := t.cgramAddress }
  | .cgdata _ => { s with cgram := t.cgram, cgramAddress := t.cgramAddress }
  | .nmien _ => { s with nmiEnable := t.nmiEnable }
  | .writeOther _ _ => s
  | .nmistat => s
  | .hvstat => s
  | .readOther _ => s
  | .tick => s
  | .reset => s

/-- The three data ports, whose writes are not idempotent (20_memory R66). -/
def isDataPort : Instr → Bool
  | .vdatal _ => true
  | .vdatah _ => true
  | .cgdata _ => true
  | .tilemap0 _ => false
  | .tilemap1 _ => false
  | .tilemap2 _ => false
  | .tilemap3 _ => false
  | .chrbase01 _ => false
  | .chrbase23 _ => false
  | .vportctrl _ => false
  | .vaddrl _ => false
  | .vaddrh _ => false
  | .cgaddr _ => false
  | .nmien _ => false
  | .writeOther _ _ => false
  | .nmistat => false
  | .hvstat => false
  | .readOther _ => false
  | .tick => false
  | .reset => false

/-- The part of the state no operation reads (10_state R27, R30, R34): the remap mode, the mirroring flags, layers
1 to 3 and OAM, all set to fixed values. Two states that agree after it differ only there. -/
def State.eraseUnread (s : State) : State :=
  { s with
    layer0 := { s.layer0 with horizontalMirroring := false, verticalMirroring := false }
    layer1 := LayerConfig.cleared
    layer2 := LayerConfig.cleared
    layer3 := LayerConfig.cleared
    vramRemapMode := 0#2
    oam := [] }

end Sys2Proof.Machine
end

