-- ==== Sys2Proof/Certificates/Slice0/Obligations.lean ====
section
/-! DEFINITION. The statements for the provers. `q` is the outcome's output record of an operation that
emits nothing and reads nothing. -/

open Sys2Proof Sys2Proof.Machine

/-! ### Command words and steps -/

/-- Words written out from 30_encoding R82 and R84, one or more of every family, decode to what they stand for. -/
def Obligations.SampleWordsDecode : Prop :=
  decode 0x22107FF#26 = .tilemap0 0xFF#8 ∧ decode 0x2210804#26 = .tilemap1 0x04#8 ∧
  decode 0x2210913#26 = .tilemap2 0x13#8 ∧ decode 0x2210A40#26 = .tilemap3 0x40#8 ∧
  decode 0x2210B21#26 = .chrbase01 0x21#8 ∧ decode 0x2210CF7#26 = .chrbase23 0xF7#8 ∧
  decode 0x221158D#26 = .vportctrl 0x8D#8 ∧ decode 0x2211634#26 = .vaddrl 0x34#8 ∧
  decode 0x2211712#26 = .vaddrh 0x12#8 ∧ decode 0x22118A5#26 = .vdatal 0xA5#8 ∧
  decode 0x221195A#26 = .vdatah 0x5A#8 ∧ decode 0x2212110#26 = .cgaddr 0x10#8 ∧
  decode 0x2212234#26 = .cgdata 0x34#8 ∧ decode 0x2420080#26 = .nmien 0x80#8 ∧
  decode 0x1421000#26 = .nmistat ∧ decode 0x14210FF#26 = .nmistat ∧ decode 0x1421200#26 = .hvstat ∧
  decode 0x1211800#26 = .readOther 0x2118#16 ∧ decode 0x24210FF#26 = .writeOther 0x4210#16 0xFF#8 ∧
  decode 0x0000000#26 = .tick ∧ decode 0x0FFFFFF#26 = .tick ∧ decode 0x3000000#26 = .reset

/-- Decoding an encoded well-formed operation gives it back, at every value of every operand. -/
def Obligations.DecodeAfterEncode : Prop := ∀ i : Instr, i.wellFormed = true → decode (encode i) = i

/-- Every command word selects exactly one row of the opcode table, a register row before a default row. That
a recognised address of the other direction falls to the default row is the spec's decision D16. -/
def Obligations.EveryWordSelectsOneRow : Prop :=
  ∀ w : CommandWord, (decode w).wellFormed = true ∧
    ∃ r ∈ registerRows ++ kindRows, r.mnemonic = (decode w).mnemonic ∧ r.applies w = true ∧
      (∀ q ∈ registerRows, q.applies w = true → q = r) ∧
      ((∀ q ∈ registerRows, q.applies w = false) → ∀ q ∈ kindRows, q.applies w = true → q = r)

/-- Encoding what was decoded gives the word back with its ignored fields 0, so no other bit is dropped. -/
def Obligations.EncodeAfterDecode : Prop :=
  ∀ w : CommandWord,
    encode (decode w) =
      packWord (wordKind w) (if wordKind w = 1#2 ∨ wordKind w = 2#2 then wordAddr w else 0#16)
        (if wordKind w = 2#2 then wordData w else 0#8)

/-- A step applies the one event its ports assert: through the four port patterns, and through the command word of
any well-formed operation. That events wait in `inputs` is the model's choice (log 1). -/
def Obligations.StepRunsThePresentedEvent : Prop :=
  ∀ (s : State) (rest : List Ports) (a : BusAddr) (v : Byte),
    step { s with inputs := ⟨true, false, false, false, a, v⟩ :: rest } = exec .reset { s with inputs := rest } ∧
    step { s with inputs := ⟨false, true, false, false, a, v⟩ :: rest } = exec .tick { s with inputs := rest } ∧
    step { s with inputs := ⟨false, false, true, false, a, v⟩ :: rest } =
      exec (decodeRead a) { s with inputs := rest } ∧
    step { s with inputs := ⟨false, false, false, true, a, v⟩ :: rest } =
      exec (decodeWrite a v) { s with inputs := rest } ∧
    ∀ i : Instr, i.wellFormed = true →
      step { s with inputs := Ports.ofWord (encode i) :: rest } = exec i { s with inputs := rest }

/-- With no event asserted, or none to come, a step holds the state and only ends the outputs. The model's choice
(log 1), after 60_exceptions R230. -/
def Obligations.StepWithoutEventHolds : Prop :=
  ∀ s : State,
    (s.inputs = [] → step s = .next { s with out := ⟨[], none⟩ }) ∧
    ∀ (a : BusAddr) (v : Byte) (rest : List Ports), s.inputs = ⟨false, false, false, false, a, v⟩ :: rest →
      step s = .next { s with inputs := rest, out := ⟨[], none⟩ }

/-- A step stops exactly when its ports assert two or more events: 00_scope R14 with D26. -/
def Obligations.StepRefusesOnlyTwoEvents : Prop :=
  ∀ s : State,
    ((∃ t, step s = .next t) ∨ step s = .refused .simultaneousEvents) ∧
    (step s = .refused .simultaneousEvents ↔ ∃ p rest, s.inputs = p :: rest ∧
      ((p.reset && p.tick) || (p.reset && p.busRd) || (p.reset && p.busWr) || (p.tick && p.busRd) ||
        (p.tick && p.busWr) || (p.busRd && p.busWr)) = true)

/-- 60_exceptions R210: no operation faults or stops, in any state. -/
def Obligations.EveryOperationCompletes : Prop := ∀ (i : Instr) (s : State), ∃ t, exec i s = .next t

/-! ### The timing controller -/

/-- 40_timing_controller R121: the TICK within a scanline, whole, and that `cycle` grows by 1 at every other TICK than
the one that takes it from 340 to 0. -/
def Obligations.TickWithinScanline : Prop :=
  (∀ s : State, s.cycle.toNat < 340 →
    exec .tick s = .next { s with cycle := BitVec.ofNat 9 (s.cycle.toNat + 1), out := ⟨[], none⟩ }) ∧
  ∀ s t : State, s.cycle.toNat ≤ 340 → exec .tick s = .next t →
    t.cycle.toNat = s.cycle.toNat + 1 ∨ (s.cycle.toNat = 340 ∧ t.cycle.toNat = 0)

/-- 40_timing_controller R122: the end of a scanline, that 340 is stored and seen and 341 never is, and that a scanline
is 341 TICKs. -/
def Obligations.TickEndsScanline : Prop :=
  (∀ s : State, s.cycle.toNat = 340 → s.scanline.toNat < 259 → ∃ t, exec .tick s = .next t ∧
    t.cycle = 0#9 ∧ t.scanline.toNat = s.scanline.toNat + 1 ∧
    (s.scanline.toNat ≠ 224 →
      t = { s with cycle := 0#9, scanline := BitVec.ofNat 9 (s.scanline.toNat + 1), out := ⟨[], none⟩ })) ∧
  (∀ s : State, s.cycle.toNat = 339 → ∃ t, exec .tick s = .next t ∧ t.getState.cycle = 340#9) ∧
  (∀ (i : Instr) (s t : State), s.cycle.toNat ≤ 340 → exec i s = .next t → t.cycle.toNat ≤ 340) ∧
  (∀ s : State, s.cycle = 0#9 → s.scanline.toNat < 259 → ∃ t, runAll (tickN 341) s = .next t ∧
    t.cycle = 0#9 ∧ t.scanline.toNat = s.scanline.toNat + 1)

/-- 40_timing_controller R123 with 44_frame_dispatch R200 to R205, whole: what the TICK that reaches scanline 225
leaves, and that it leaves everything else. The order of its effects is the spec's decision D4. -/
def Obligations.TickStartsVblank : Prop :=
  ∀ s : State, s.cycle.toNat = 340 → s.scanline.toNat = 224 → ∃ t, exec .tick s = .next t ∧
    (∀ x y, x < 256 → y < 224 → t.fbRead s.active x y = s.pixelAt x y) ∧
    t.fb (1#1 - s.active) = s.fb (1#1 - s.active) ∧
    t = { s with
      cycle := 0#9
      scanline := 225#9
      nmiFlag := true
      active := 1#1 - s.active
      fb0 := t.fb0
      fb1 := t.fb1
      voBuf := s.active
      voFrame := s.frameCount
      handedOver := true
      out := ⟨[.frameReady, .frameHandoff s.active s.frameCount] ++ (if s.nmiEnable then [.nmi] else []), none⟩ }

/-- 40_timing_controller R124; that the count wraps at 2^32 is the spec's decision D5. -/
def Obligations.TickWrapsFrame : Prop :=
  ∀ s : State, s.cycle.toNat = 340 → s.scanline.toNat = 259 →
    exec .tick s = .next { s with
      cycle := 0#9
      scanline := 0#9
      nmiFlag := false
      frameCount := BitVec.ofNat 32 ((s.frameCount.toNat + 1) % 2 ^ 32)
      out := ⟨[], none⟩ }

/-- 40_timing_controller R128, R130: over any run without RESET the raster position moves by the number of TICKs in
it, whatever READs and WRITEs stand between them. -/
def Obligations.RunMovesPositionByItsTicks : Prop :=
  ∀ (is : List Instr) (s : State), Instr.reset ∉ is → s.cycle.toNat ≤ 340 → s.scanline.toNat < 260 →
    ∃ t, runAll is s = .next t ∧ t.cycle.toNat ≤ 340 ∧ t.scanline.toNat < 260 ∧
      t.position = (s.position + countTicks is) % (2 ^ 32 * 88660)

/-- 40_timing_controller R128: a frame is 341×260 TICKs, seen through GetState (R127), with any READs and WRITEs
among them. -/
def Obligations.FrameOfTicksReturnsToItsStart : Prop :=
  ∀ (is : List Instr) (s : State), Instr.reset ∉ is → countTicks is = 341 * 260 → s.cycle.toNat ≤ 340 →
    s.scanline.toNat < 260 →
    ∃ t, runAll is s = .next t ∧ t.getState = ⟨s.cycle, s.scanline, s.frameCount + 1#32⟩

/-- 10_state R41 (h): the handoffs of any run without RESET are counted by the frame count. R41 (h) speaks while
`frameCount` has not wrapped; the count modulo 2^32 past the wrap is the spec's decision D5 (log 10), the first buffer
D30 (log 8). -/
def Obligations.HandoffsAreCountedByFrames : Prop :=
  ∀ (is : List Instr) (s t : State), Instr.reset ∉ is → s.Inv → runAll is s = .next t →
    t.framesHandedOver =
      s.framesHandedOver + BitVec.ofNat 32 ((runEvents is s).countP OutEvent.isHandoff) ∧
    t.active = t.framesHandedOver.setWidth 1

/-! ### The interrupt -/

/-- 60_exceptions R213: who sets and clears `nmiFlag`, whatever the enable; where it is seen; and that it sends nothing
by being 1. RESET is not among the rule's writers and is stated apart. -/
def Obligations.NmiFlagFollowsTheRaster : Prop :=
  (∀ (i : Instr) (s t : State), i ≠ .reset → exec i s = .next t →
    t.nmiFlag =
      if i = .tick ∧ s.atVblankEdge = true then true
      else if i = .tick ∧ s.atFrameWrap = true then false
      else s.nmiFlag) ∧
  (∀ s : State, ∃ (t : State) (b : Byte), exec .nmistat s = .next t ∧ t.out.readData = some b ∧
    b.getLsbD 7 = s.nmiFlag) ∧
  ∀ (i : Instr) (s t t' : State) (b : Bool), exec i s = .next t → exec i { s with nmiFlag := b } = .next t' →
    t'.out.events = t.out.events

/-- 60_exceptions R215: when the pulse is sent, at most once, and on which TICKs after RESET. -/
def Obligations.NmiIsSentExactlyAtVblankStart : Prop :=
  (∀ (i : Instr) (s t : State), exec i s = .next t →
    (OutEvent.nmi ∈ t.out.events ↔
      i = .tick ∧ s.cycle.toNat = 340 ∧ s.scanline.toNat = 224 ∧ s.nmiEnable = true) ∧
    t.out.events.count .nmi ≤ 1) ∧
  ∀ (is : List Instr) (t : State), Instr.reset ∉ is → runAll is State.reset = .next t →
    (t.atVblankEdge = true ↔ ∃ k, countTicks is + 1 = 76725 + k * 88660)

/-- 60_exceptions R216, R218 and 70_reset_and_hazards R256: the enable decides whether that one TICK pulses `Nmi`, and
nothing else: not the other events, not their order, not the byte read. That a late enable raises nothing is the spec's
decision D23 (log 14). -/
def Obligations.EnableDecidesOnlyThePulse : Prop :=
  ∀ (i : Instr) (s t t' : State) (b : Bool), exec i s = .next t →
    exec i { s with nmiEnable := b } = .next t' →
    (i = .tick ∧ s.atVblankEdge = true →
      t' = { t with nmiEnable := b, out := t'.out } ∧ t'.out.readData = t.out.readData ∧
      t'.out.events.filter (· ≠ .nmi) = t.out.events.filter (· ≠ .nmi) ∧
      (OutEvent.nmi ∈ t'.out.events ↔ b = true)) ∧
    (¬(i = .tick ∧ s.atVblankEdge = true) → i ≠ .reset → (∀ v, i ≠ .nmien v) →
      t' = { t with nmiEnable := b })

/-- 40_timing_controller R125, 70_reset_and_hazards R251, 30_encoding R81: nothing but the TICK that reaches scanline 225
emits an event or changes what `vo_buf` and `vo_frame` hold, RESET included (log 4), and nothing but it (and RESET)
writes a frame buffer or swaps. -/
def Obligations.OnlyVblankTickTouchesFrames : Prop :=
  ∀ (i : Instr) (s t : State), ¬(i = .tick ∧ s.atVblankEdge = true) → exec i s = .next t →
    t.out.events = [] ∧
    t.voBuf = s.voBuf ∧ t.voFrame = s.voFrame ∧ t.handedOver = s.handedOver ∧
    (i ≠ .reset → t.fb0 = s.fb0 ∧ t.fb1 = s.fb1 ∧ t.active = s.active)

/-! ### Register writes -/

/-- 41_register_writes R141 to R144, with the bit positions the spec decides (D10, D12; log 9). -/
def Obligations.TilemapWrites : Prop :=
  ∀ (v : Byte) (s : State),
    let f := fun l : LayerConfig =>
      ({ tilemapAddress := BitVec.ofNat 16 (v.toNat / 4 * 2048), chrAddress := l.chrAddress,
         horizontalMirroring := v.toNat % 2 == 1, verticalMirroring := v.toNat / 2 % 2 == 1 } : LayerConfig)
    exec (.tilemap0 v) s = .next { s with layer0 := f s.layer0, out := ⟨[], none⟩ } ∧
    exec (.tilemap1 v) s = .next { s with layer1 := f s.layer1, out := ⟨[], none⟩ } ∧
    exec (.tilemap2 v) s = .next { s with layer2 := f s.layer2, out := ⟨[], none⟩ } ∧
    exec (.tilemap3 v) s = .next { s with layer3 := f s.layer3, out := ⟨[], none⟩ }

/-- 41_register_writes R145, R146, with the shift and the nibbles the spec decides (D11; log 9). -/
def Obligations.ChrBaseWrites : Prop :=
  ∀ (v : Byte) (s : State),
    exec (.chrbase01 v) s = .next { s with
      layer0 := { s.layer0 with chrAddress := BitVec.ofNat 16 (v.toNat % 16 * 8192) }
      layer1 := { s.layer1 with chrAddress := BitVec.ofNat 16 (v.toNat / 16 * 8192) }
      out := ⟨[], none⟩ } ∧
    exec (.chrbase23 v) s = .next { s with
      layer2 := { s.layer2 with chrAddress := BitVec.ofNat 16 (v.toNat % 16 * 8192) }
      layer3 := { s.layer3 with chrAddress := BitVec.ofNat 16 (v.toNat / 16 * 8192) }
      out := ⟨[], none⟩ }

/-- 41_register_writes R147, with the field positions the spec decides (D13; log 9). -/
def Obligations.VportctrlWrite : Prop :=
  ∀ (v : Byte) (s : State),
    exec (.vportctrl v) s = .next { s with
      vramIncrement := BitVec.ofNat 8 (if v.toNat % 4 = 0 then 1 else if v.toNat % 4 = 1 then 32 else 128)
      vramRemapMode := BitVec.ofNat 2 (v.toNat / 4)
      incrementOnHighByteWrite := decide (128 ≤ v.toNat)
      out := ⟨[], none⟩ }

/-- 41_register_writes R148: the command word and the write. -/
def Obligations.VaddrlWrite : Prop :=
  ∀ (v : Byte) (s : State),
    decode (0x2211600#26 ||| v.setWidth 26) = .vaddrl v ∧
    exec (.vaddrl v) s = .next { s with
      vramAddress := BitVec.ofNat 15 (s.vramAddress.toNat / 256 * 256 + v.toNat), out := ⟨[], none⟩ }

/-- 41_register_writes R149: the command word, the write, the dropped bit, and that the order of the two address writes does not
matter. -/
def Obligations.VaddrhWrite : Prop :=
  ∀ (v w : Byte) (s : State),
    decode (0x2211700#26 ||| v.setWidth 26) = .vaddrh v ∧
    exec (.vaddrh v) s = .next { s with
      vramAddress := BitVec.ofNat 15 (v.toNat % 128 * 256 + s.vramAddress.toNat % 256), out := ⟨[], none⟩ } ∧
    exec (.vaddrh (v ^^^ 0x80#8)) s = exec (.vaddrh v) s ∧
    runAll [.vaddrl w, .vaddrh v] s = runAll [.vaddrh v, .vaddrl w] s

/-- 41_register_writes R150: the byte stored, every other byte kept, the increment when the flag is 0. The wrap of the
address is the spec's decision D9. -/
def Obligations.VdatalStore : Prop :=
  ∀ (v : Byte) (s : State), ∃ t, exec (.vdatal v) s = .next t ∧
    (∀ a, t.vramRead a = if a % 65536 = 2 * s.vramAddress.toNat then v else s.vramRead a) ∧
    t = { s with
      vram := t.vram
      vramAddress :=
        if s.incrementOnHighByteWrite then s.vramAddress
        else BitVec.ofNat 15 ((s.vramAddress.toNat + s.vramIncrement.toNat) % 32768)
      out := ⟨[], none⟩ }

/-- 41_register_writes R151: as R150, with the odd byte and the flag 1. The wrap is the spec's decision D9. -/
def Obligations.VdatahStore : Prop :=
  ∀ (v : Byte) (s : State), ∃ t, exec (.vdatah v) s = .next t ∧
    (∀ a, t.vramRead a = if a % 65536 = 2 * s.vramAddress.toNat + 1 then v else s.vramRead a) ∧
    t = { s with
      vram := t.vram
      vramAddress :=
        if s.incrementOnHighByteWrite then
          BitVec.ofNat 15 ((s.vramAddress.toNat + s.vramIncrement.toNat) % 32768)
        else s.vramAddress
      out := ⟨[], none⟩ }

/-- 10_state R31: which data write increments and which does not; that with an increment as registers set it exactly one
of the two moves the address; and that only VPORTCTRL (and RESET) writes the flag. That the sum wraps at 2^15 is the
spec's decision D9 (log 10). -/
def Obligations.FlagSelectsTheIncrementingHalf : Prop :=
  (∀ (v w : Byte) (s t u : State), exec (.vdatal v) s = .next t → exec (.vdatah w) s = .next u →
    (s.incrementOnHighByteWrite = false →
      t.vramAddress = s.vramAddress + s.vramIncrement.setWidth 15 ∧ u.vramAddress = s.vramAddress) ∧
    (s.incrementOnHighByteWrite = true →
      t.vramAddress = s.vramAddress ∧ u.vramAddress = s.vramAddress + s.vramIncrement.setWidth 15)) ∧
  (∀ (v w : Byte) (s t u : State), s.vramIncrement = 1#8 ∨ s.vramIncrement = 32#8 ∨ s.vramIncrement = 128#8 →
    exec (.vdatal v) s = .next t → exec (.vdatah w) s = .next u →
    (t.vramAddress ≠ s.vramAddress ↔ s.incrementOnHighByteWrite = false) ∧
    (u.vramAddress ≠ s.vramAddress ↔ s.incrementOnHighByteWrite = true)) ∧
  ∀ (i : Instr) (s t : State), i ≠ .reset → (∀ v, i ≠ .vportctrl v) → exec i s = .next t →
    t.incrementOnHighByteWrite = s.incrementOnHighByteWrite

/-- 41_register_writes R152: the command word and the write. -/
def Obligations.CgaddrWrite : Prop :=
  ∀ (v : Byte) (s : State),
    decode (0x2212100#26 ||| v.setWidth 26) = .cgaddr v ∧
    exec (.cgaddr v) s = .next { s with cgramAddress := BitVec.ofNat 9 (2 * v.toNat), out := ⟨[], none⟩ }

/-- 41_register_writes R153: the byte stored at once, every other byte kept, the pointer moved. The wrap at 512 is the
spec's decision D7. -/
def Obligations.CgdataStore : Prop :=
  ∀ (v : Byte) (s : State), ∃ t, exec (.cgdata v) s = .next t ∧
    (∀ a, t.cgRead a = if a % 512 = s.cgramAddress.toNat then v else s.cgRead a) ∧
    t = { s with
      cgram := t.cgram
      cgramAddress := BitVec.ofNat 9 ((s.cgramAddress.toNat + 1) % 512)
      out := ⟨[], none⟩ }

/-- 41_register_writes R154: the command word, the write, which sends nothing in any state, and that the enable has a
say in what a step puts out only at the TICK that makes `scanline` 225. -/
def Obligations.NmienWrite : Prop :=
  (∀ (v : Byte) (s : State),
    decode (0x2420000#26 ||| v.setWidth 26) = .nmien v ∧
    exec (.nmien v) s = .next { s with nmiEnable := decide (128 ≤ v.toNat), out := ⟨[], none⟩ }) ∧
  ∀ (i : Instr) (s t t' : State) (b : Bool), ¬(i = .tick ∧ s.atVblankEdge = true) → exec i s = .next t →
    exec i { s with nmiEnable := b } = .next t' → t'.out = t.out

/-- 41_register_writes R155: a WRITE to any address that is no write register changes nothing. That the two read-only
addresses are among them is the spec's decision D16. -/
def Obligations.UnrecognisedWritesAreIgnored : Prop :=
  ∀ (a : BusAddr) (v : Byte) (s : State),
    exec (.writeOther a v) s = .next { s with out := ⟨[], none⟩ } ∧
    (a ∉ writeAddrs → exec (decode (packWord 2#2 a v)) s = .next { s with out := ⟨[], none⟩ })

/-- 41_register_writes R140: every WRITE completes, emits and returns nothing, and changes only what its own rule
names, so never the raster, `nmiFlag`, `active`, OAM or a frame buffer. -/
def Obligations.WritesChangeOnlyWhatTheirRuleNames : Prop :=
  (∀ (a : BusAddr) (v : Byte), isWrite (decode (packWord 2#2 a v)) = true) ∧
  ∀ (i : Instr) (s : State), isWrite i = true → ∃ t, exec i s = .next t ∧
    t = { s.withNamedFields i t with out := ⟨[], none⟩ } ∧
    t.cycle = s.cycle ∧ t.scanline = s.scanline ∧ t.frameCount = s.frameCount ∧ t.nmiFlag = s.nmiFlag ∧
    t.active = s.active ∧ t.oam = s.oam ∧ t.fb0 = s.fb0 ∧ t.fb1 = s.fb1

/-- 20_memory R66: reads change nothing; a data-port write is not idempotent; the other register writes are. -/
def Obligations.IdempotentAndNotIdempotentAccesses : Prop :=
  (∀ (i : Instr) (s t : State), isRead i = true → exec i s = .next t →
    t = { s with out := t.out } ∧ exec i t = .next t) ∧
  (∀ (i : Instr) (s t : State), isWrite i = true → isDataPort i = false → exec i s = .next t →
    exec i t = .next t) ∧
  (∀ (v : Byte) (s t : State), exec (.cgdata v) s = .next t → t.cgramAddress ≠ s.cgramAddress) ∧
  ∀ (v : Byte) (s t : State), s.vramIncrement = 1#8 ∨ s.vramIncrement = 32#8 ∨ s.vramIncrement = 128#8 →
    (s.incrementOnHighByteWrite = false → exec (.vdatal v) s = .next t → t.vramAddress ≠ s.vramAddress) ∧
    (s.incrementOnHighByteWrite = true → exec (.vdatah v) s = .next t → t.vramAddress ≠ s.vramAddress)

/-- 20_memory R58: colours are little-endian, and a colour written through the palette port reads back whole. -/
def Obligations.ColoursAreLittleEndian : Prop :=
  (∀ (s : State) (a : Nat), (s.cgRead16 a).toNat = (s.cgRead a).toNat + 256 * (s.cgRead (a + 1)).toNat) ∧
  ∀ (s : State) (n lo hi : Byte), ∃ t, runAll (.cgaddr n :: cgcol hi lo) s = .next t ∧
    (t.cgRead16 (2 * n.toNat)).toNat = lo.toNat + 256 * hi.toNat

/-- 20_memory R57 and 30_encoding R106: a word written low byte first lands whole with the flag 1 and is split over two
words with the flag 0 (C9). The wrap is the spec's decision D9. -/
def Obligations.WordThroughTheVramPort : Prop :=
  ∀ (s : State) (hh ll hi lo : Byte), ∃ t,
    runAll (vaddr hh ll ++ vword hi lo) s = .next t ∧
    let w := hh.toNat % 128 * 256 + ll.toNat
    let w' := (w + s.vramIncrement.toNat) % 32768
    t.vramRead (2 * w) = lo ∧
    t.vramRead (2 * (if s.incrementOnHighByteWrite then w else w') + 1) = hi ∧
    t.vramAddress.toNat = w' ∧
    ∀ a, a % 65536 ≠ 2 * w → a % 65536 ≠ 2 * (if s.incrementOnHighByteWrite then w else w') + 1 →
      t.vramRead a = s.vramRead a

/-! ### Register reads -/

/-- 42_register_reads R171: the command word; bit 7 is the flag, bits 6:0 the open constant, whatever it is; nothing changes; in a
reachable state the flag is on exactly in lines 225 to 259. -/
def Obligations.NmistatRead : Prop :=
  (∀ v : Byte, decode (0x1421000#26 ||| v.setWidth 26) = .nmistat) ∧
  ∀ s : State, ∃ b : Byte, exec .nmistat s = .next { s with out := ⟨[], some b⟩ } ∧
    b.getLsbD 7 = s.nmiFlag ∧ b.extractLsb' 0 7 = Config.openBus4210 ∧
    (s.Inv → (128 ≤ b.toNat ↔ 225 ≤ s.scanline.toNat))

/-- 42_register_reads R172 with 40_timing_controller R126; the bit positions are the spec's decision D15 (log 9). -/
def Obligations.HvstatRead : Prop :=
  ∀ s : State,
    exec .hvstat s = .next { s with
      out := ⟨[], some (BitVec.ofNat 8 ((if 225 ≤ s.scanline.toNat then 128 else 0) +
        (if 0x121 ≤ s.cycle.toNat ∨ s.cycle.toNat ≤ 0x15 then 64 else 0)))⟩ }

/-- 42_register_reads R173: a defined zero. That write-only addresses are among the unrecognised ones is the spec's
decision D16. -/
def Obligations.UnrecognisedReadsAreZero : Prop :=
  ∀ (a : BusAddr) (s : State),
    exec (.readOther a) s = .next { s with out := ⟨[], some 0#8⟩ } ∧
    (a ∉ readAddrs → ∀ v, exec (decode (packWord 1#2 a v)) s = .next { s with out := ⟨[], some 0#8⟩ })

/-- 42_register_reads R170: a READ may be dropped from any run that goes on after it. That a READ of 0x4210 has no
effect is the spec's decision D14. -/
def Obligations.ReadsCanBeDropped : Prop :=
  ∀ (i j : Instr) (before after : List Instr) (s : State), isRead i = true →
    runAll (before ++ i :: j :: after) s = runAll (before ++ j :: after) s ∧
    runEvents (before ++ i :: after) s = runEvents (before ++ after) s

/-! ### Rendering -/

/-- 43_render_pipeline R182 to R187, as one formula over the bytes of VRAM and CGRAM; the field positions, the plane
order and the grid order are the spec's decisions D17, D18, D19 (log 9, log 17). -/
def Obligations.PixelFormula : Prop :=
  ∀ (s : State) (x y : Nat),
    let e := s.layer0.tilemapAddress.toNat + (y / 8 * 32 + x / 8) * 2
    let b0 := (s.vramRead e).toNat
    let b1 := (s.vramRead (e + 1)).toNat
    let r := s.layer0.chrAddress.toNat + (b1 / 64 * 256 + b0) * 16 + 2 * (y % 8)
    let bit := 2 ^ (7 - x % 8)
    let ci := (s.vramRead (r + 1)).toNat / bit % 2 * 2 + (s.vramRead r).toNat / bit % 2
    let off := if ci = 0 then 0 else (b1 / 4 % 8 * 4 + ci) * 2
    (s.pixelAt x y).toNat = (s.cgRead off).toNat + 256 * (s.cgRead (off + 1)).toNat

/-- 43_render_pipeline R180 against R191: the loop nest of frame-buffer writes is the function of the pixel. -/
def Obligations.RenderLoopIsThePixelFunction : Prop :=
  ∀ s : State, Bank.wf 57344 (s.fb s.active) = true → s.renderLoop = s.renderFrame

/-- 43_render_pipeline R191, 10_state R35: the picture of a frame depends on VRAM, the first 64 bytes of CGRAM and the
two bases of `layer[0]`, and on nothing else. -/
def Obligations.PictureDependsOnlyOnItsInputs : Prop :=
  ∀ s s' t t' : State, s.atVblankEdge = true → s'.atVblankEdge = true →
    (∀ a, s.vramRead a = s'.vramRead a) → (∀ a, a < 64 → s.cgRead a = s'.cgRead a) →
    s.layer0.tilemapAddress = s'.layer0.tilemapAddress → s.layer0.chrAddress = s'.layer0.chrAddress →
    exec .tick s = .next t → exec .tick s' = .next t' →
    ∀ x y, x < 256 → y < 224 → t.fbRead s.active x y = t'.fbRead s'.active x y

/-- 43_render_pipeline R190, R192: with bases as registers set them, tilemap fetches never wrap, and CHR fetches wrap
only from base 0xE000 (D20). -/
def Obligations.RenderFetchRanges : Prop :=
  ∀ s : State, s.Inv →
    (∀ row col, row < 28 → col < 32 → entryAddr cfg s.layer0.tilemapAddress row col + 1 ≤ 65279) ∧
    (∀ (t : BitVec 10) (py : Nat), py < 8 →
      rowAddr cfg s.layer0.chrAddress t py + 1 ≤ 73727 ∧
      (65536 ≤ rowAddr cfg s.layer0.chrAddress t py ↔ s.layer0.chrAddress = 0xE000#16 ∧ 512 ≤ t.toNat))

/-- 10_state R27: layers 1 to 3, the mirroring flags, the remap mode and OAM have no effect on any output: two states
that differ only there run alike, event for event and byte for byte. -/
def Obligations.UnreadStateHasNoEffect : Prop :=
  ∀ (is : List Instr) (s s' : State), s.eraseUnread = s'.eraseUnread →
    runEvents is s = runEvents is s' ∧
    ∃ t t', runAll is s = .next t ∧ runAll is s' = .next t' ∧ t.eraseUnread = t'.eraseUnread

/-- 10_state R33 to R35: only the data ports (and RESET) change VRAM and CGRAM, and nothing changes OAM, whatever byte
of them is read. -/
def Obligations.OnlyDataPortsWriteVideoMemory : Prop :=
  ∀ (i : Instr) (s t : State), i ≠ .reset → exec i s = .next t →
    ((∀ v, i ≠ .vdatal v) → (∀ v, i ≠ .vdatah v) → ∀ a, t.vramRead a = s.vramRead a) ∧
    ((∀ v, i ≠ .cgdata v) → ∀ a, t.cgRead a = s.cgRead a) ∧
    (∀ a, t.oamRead a = s.oamRead a) ∧ t.draws = s.draws

/-! ### Handing a frame over -/

/-- 44_frame_dispatch R204 (C2), 30_encoding R81, 60_exceptions R226 (D31): after the frame event `vo_buf` and
`vo_frame` name the buffer and the frame just rendered, `vo_pixel` shows its picture, and a read of the other buffer is
refused. -/
def Obligations.HandedOverBufferHoldsThePicture : Prop :=
  ∀ s t : State, s.atVblankEdge = true → exec .tick s = .next t →
    t.voBuf = s.active ∧ t.voFrame = s.frameCount ∧
    ∀ x y : Byte,
      (y.toNat < 224 → t.voPixel x y = s.pixelAt x.toNat y.toNat ∧
        t.voRead s.active x y = .ok (s.pixelAt x.toNat y.toNat)) ∧
      t.voRead (1#1 - s.active) x y = .error .bufferNotHandedOver

/-- 44_frame_dispatch R206, 30_encoding R81, 20_memory R72: the ports hold until the next handoff, over a RESET too (log
4); what the video output reads stays the same until then, a RESET apart, which draws the buffers afresh; and a buffer
handed over is not written until the render of the second handoff after its own. -/
def Obligations.HandedOverFrameIsStable : Prop :=
  (∀ (i : Instr) (s t : State), ¬(i = .tick ∧ s.atVblankEdge = true) → exec i s = .next t →
    t.voBuf = s.voBuf ∧ t.voFrame = s.voFrame ∧
    (i ≠ .reset → ∀ x y, t.voPixel x y = s.voPixel x y ∧ ∀ b, t.voRead b x y = s.voRead b x y)) ∧
  ∀ (is : List Instr) (s t u : State), s.atVblankEdge = true → exec .tick s = .next t → Instr.reset ∉ is →
    (runEvents is t).countP OutEvent.isHandoff ≤ 1 → runAll is t = .next u → u.fb t.voBuf = t.fb t.voBuf

/-- 44_frame_dispatch R206: the next handoff after one, however far on, names the other buffer and the next frame. The
wrap of the frame number is the spec's decision D5 (log 10). -/
def Obligations.HandoffsAlternate : Prop :=
  ∀ (is : List Instr) (s t u : State), s.atVblankEdge = true → exec .tick s = .next t → Instr.reset ∉ is →
    (runEvents is t).countP OutEvent.isHandoff = 0 → runAll is t = .next u → u.atVblankEdge = true →
    ∃ v, exec .tick u = .next v ∧ v.voBuf = 1#1 - t.voBuf ∧ v.voFrame = t.voFrame + 1#32 ∧
      OutEvent.frameHandoff (1#1 - t.voBuf) (t.voFrame + 1#32) ∈ v.out.events

/-! ### Reset, the invariant, the trace notation -/

/-- 70_reset_and_hazards R240, R242 with 10_state R42, R43: what RESET leaves, in any state, and that the machine's
reset state is such a state. The register values are the spec's decisions D24, D30 (log 8); fresh memory contents its
decision D25 (log 5); the outputs of the step, and that the events to come stay, the model's choice (log 1, log 3). That
RESET leaves the held ports as they are is read from 30_encoding R81 (log 4). -/
def Obligations.ResetLeavesTheTableValues : Prop :=
  let table := fun t : State =>
    t.cycle = 0#9 ∧ t.scanline = 0#9 ∧ t.frameCount = 0#32 ∧ t.nmiFlag = false ∧ t.nmiEnable = false ∧
    (∀ l ∈ [t.layer0, t.layer1, t.layer2, t.layer3], l = ⟨0#16, 0#16, false, false⟩) ∧
    t.vramAddress = 0#15 ∧ t.vramIncrement = 1#8 ∧ t.vramRemapMode = 0#2 ∧
    t.incrementOnHighByteWrite = false ∧ t.cgramAddress = 0#9 ∧ t.active = 0#1 ∧
    t.out = ⟨[], none⟩ ∧
    (∀ a, t.vramRead a = Config.initVram t.draws (a % 65536)) ∧
    (∀ a, t.cgRead a = Config.initCgram t.draws (a % 512)) ∧
    (∀ a, t.oamRead a = Config.initOam t.draws (a % 544)) ∧
    (∀ b x y, t.fbRead b x y = Config.initFb t.draws b (y * 256 + x)) ∧
    (∃ u b, exec .nmistat t = .next u ∧ u.out.readData = some b ∧ b.getLsbD 7 = false) ∧
    ∃ u, exec .hvstat t = .next u ∧ u.out.readData = some 0x40#8
  table State.reset ∧
  ∀ s : State, ∃ t, exec .reset s = .next t ∧ table t ∧ t.draws = s.draws + 1 ∧ t.inputs = s.inputs ∧
    t.voBuf = s.voBuf ∧ t.voFrame = s.voFrame ∧ t.handedOver = s.handedOver

/-- The state after reset meets the invariant of 10_state R41. It rests on the reset values of D24 and D30 (log 8); of the
held ports (log 4) the invariant says something only once a frame has been handed over since RESET, and the memories
start with nothing stored (log 6). -/
def Obligations.ResetStateMeetsInvariant : Prop := State.reset.Inv ∧ State.reset.memoriesWf = true

/-- 10_state R41: every step, from every state that meets the invariant, keeps it. Beside R41 the invariant says what the
held ports show once a frame has been handed over since RESET (30_encoding R81, log 4) and that the memories are in the
model's canonical form (log 6). The alignments are the spec's decisions D10 and D11 (log 9), the parity's start D30 (log
8), and the count past the wrap of `frameCount` D5 (log 10). -/
def Obligations.EveryStepKeepsInvariant : Prop :=
  ∀ s t : State, s.Inv → Sys2Proof.Machine.step s = .next t → t.Inv

/-- The canonical form of the memories is kept by every operation from every state in that form, reachable or not (log
6). -/
def Obligations.EveryOperationKeepsMemoriesCanonical : Prop :=
  ∀ (i : Instr) (s t : State), s.memoriesWf = true → exec i s = .next t → t.memoriesWf = true

/-- 30_encoding R106: `TOLINE l` reaches (0, l), and no smaller number of TICKs, at least 1, does. The notation is the
spec's own (D3; log 20). -/
def Obligations.TolineIsTheLeastCount : Prop :=
  ∀ (s : State) (l : Nat), s.cycle.toNat ≤ 340 → s.scanline.toNat < 260 → l < 260 →
    (∃ t, runAll (toline s l) s = .next t ∧ t.cycle = 0#9 ∧ t.scanline.toNat = l) ∧
    1 ≤ tolineCount s l ∧
    ∀ n, 1 ≤ n → n < tolineCount s l → ∃ t, runAll (tickN n) s = .next t ∧
      ¬(t.cycle = 0#9 ∧ t.scanline.toNat = l)
end

