-- ==== Sys2Proof/Laws/Bank.lean ====
section
/-! SUPPORT. The laws of a bank: read after write, the canonical form, equal contents are equal lists, and a
bank filled at every place. -/

namespace Sys2Proof.Machine

variable {α : Type}

@[simp] theorem Bank.lookup_nil (a : Nat) : Bank.lookup ([] : List (Nat × α)) a = none := rfl

theorem Bank.lookup_store_same (m : List (Nat × α)) (a : Nat) (v : α) :
    Bank.lookup (Bank.store m a v) a = some v := by
  induction m with
  | nil => simp [Bank.store, Bank.lookup]
  | cons e rest ih =>
    obtain ⟨b, w⟩ := e
    simp only [Bank.store]
    split
    · simp [Bank.lookup]
    · split
      · simp [Bank.lookup]
      · rename_i h; simp [Bank.lookup, h, ih]

theorem Bank.lookup_store_other (m : List (Nat × α)) {a a' : Nat} (v : α) (h : a' ≠ a) :
    Bank.lookup (Bank.store m a v) a' = Bank.lookup m a' := by
  induction m with
  | nil => simp [Bank.store, Bank.lookup, h]
  | cons e rest ih =>
    obtain ⟨b, w⟩ := e
    simp only [Bank.store]
    split
    · simp [Bank.lookup, h]
    · split
      · rename_i hb; subst hb; simp [Bank.lookup, h]
      · simp [Bank.lookup, ih]

/-- Looking up after a store, in one rule. -/
theorem Bank.lookup_store (m : List (Nat × α)) (a a' : Nat) (v : α) :
    Bank.lookup (Bank.store m a v) a' = if a' = a then some v else Bank.lookup m a' := by
  split
  · rename_i h; subst h; exact Bank.lookup_store_same ..
  · rename_i h; exact Bank.lookup_store_other _ _ h

theorem Bank.risingFrom_cons {lo size a : Nat} {v : α} {rest : List (Nat × α)} :
    Bank.risingFrom lo size ((a, v) :: rest) = true ↔
      lo ≤ a ∧ a < size ∧ Bank.risingFrom (a + 1) size rest = true := by
  simp [Bank.risingFrom, and_assoc]

theorem Bank.risingFrom_mono {lo lo' size : Nat} {m : List (Nat × α)} (hl : lo' ≤ lo)
    (h : Bank.risingFrom lo size m = true) : Bank.risingFrom lo' size m = true := by
  cases m with
  | nil => rfl
  | cons e rest =>
    obtain ⟨a, v⟩ := e
    rw [Bank.risingFrom_cons] at h ⊢
    exact ⟨by omega, h.2⟩

theorem Bank.risingFrom_store {lo size : Nat} {m : List (Nat × α)} {a : Nat} (v : α)
    (h : Bank.risingFrom lo size m = true) (hl : lo ≤ a) (ha : a < size) :
    Bank.risingFrom lo size (Bank.store m a v) = true := by
  induction m generalizing lo with
  | nil => simp [Bank.store, Bank.risingFrom, hl, ha]
  | cons e rest ih =>
    obtain ⟨b, w⟩ := e
    rw [Bank.risingFrom_cons] at h
    obtain ⟨hb, hbs, hr⟩ := h
    simp only [Bank.store]
    split
    · rw [Bank.risingFrom_cons, Bank.risingFrom_cons]
      exact ⟨hl, ha, by omega, hbs, hr⟩
    · split
      · rename_i hab; subst hab
        rw [Bank.risingFrom_cons]; exact ⟨hl, ha, hr⟩
      · rw [Bank.risingFrom_cons]
        exact ⟨hb, hbs, ih hr (by omega)⟩

/-- A store inside the bank keeps the canonical form. -/
theorem Bank.wf_store {size : Nat} {m : List (Nat × α)} {a : Nat} (v : α)
    (h : Bank.wf size m = true) (ha : a < size) : Bank.wf size (Bank.store m a v) = true :=
  Bank.risingFrom_store v h (Nat.zero_le _) ha

theorem Memory.wf_store {size : Nat} {m : Memory} {a : Nat} (v : Byte)
    (h : Memory.wf size m = true) (ha : a < size) : Memory.wf size (Bank.store m a v) = true :=
  Bank.wf_store v h ha

theorem Bank.lookup_eq_none_of_lt {lo size a : Nat} {m : List (Nat × α)}
    (h : Bank.risingFrom lo size m = true) (ha : a < lo) : Bank.lookup m a = none := by
  induction m generalizing lo with
  | nil => rfl
  | cons e rest ih =>
    obtain ⟨b, w⟩ := e
    rw [Bank.risingFrom_cons] at h
    have hne : a ≠ b := by omega
    simp only [Bank.lookup, if_neg hne]
    exact ih h.2.2 (by omega)

theorem Bank.lookup_eq_none_of_ge {lo size a : Nat} {m : List (Nat × α)}
    (h : Bank.risingFrom lo size m = true) (ha : size ≤ a) : Bank.lookup m a = none := by
  induction m generalizing lo with
  | nil => rfl
  | cons e rest ih =>
    obtain ⟨b, w⟩ := e
    rw [Bank.risingFrom_cons] at h
    have hne : a ≠ b := by omega
    simp only [Bank.lookup, if_neg hne]
    exact ih h.2.2

theorem Bank.ext_risingFrom {lo size : Nat} {m m' : List (Nat × α)}
    (h : Bank.risingFrom lo size m = true) (h' : Bank.risingFrom lo size m' = true)
    (he : ∀ a, Bank.lookup m a = Bank.lookup m' a) : m = m' := by
  induction m generalizing lo m' with
  | nil =>
    cases m' with
    | nil => rfl
    | cons e rest =>
      obtain ⟨b, w⟩ := e
      have := he b
      simp [Bank.lookup] at this
  | cons e rest ih =>
    obtain ⟨a, v⟩ := e
    cases m' with
    | nil =>
      have := he a
      simp [Bank.lookup] at this
    | cons e' rest' =>
      obtain ⟨b, w⟩ := e'
      rw [Bank.risingFrom_cons] at h h'
      obtain ⟨_, _, hr⟩ := h
      obtain ⟨_, _, hr'⟩ := h'
      have hab : a = b := by
        rcases Nat.lt_trichotomy a b with hlt | heq | hgt
        · have h1 := he a
          have hn : Bank.lookup rest' a = none := Bank.lookup_eq_none_of_lt hr' (by omega)
          simp [Bank.lookup, Nat.ne_of_lt hlt, hn] at h1
        · exact heq
        · have h1 := he b
          have hn : Bank.lookup rest b = none := Bank.lookup_eq_none_of_lt hr (by omega)
          simp [Bank.lookup, Nat.ne_of_lt hgt, hn] at h1
      subst hab
      have hv : v = w := by simpa [Bank.lookup] using he a
      subst hv
      congr 1
      refine ih hr hr' fun c => ?_
      by_cases hc : c = a
      · subst hc
        rw [Bank.lookup_eq_none_of_lt hr (by omega), Bank.lookup_eq_none_of_lt hr' (by omega)]
      · simpa [Bank.lookup, hc] using he c

/-- In canonical form, banks that hold the same at every place are the same list. -/
theorem Bank.ext_of_lookup {size : Nat} {m m' : List (Nat × α)} (h : Bank.wf size m = true)
    (h' : Bank.wf size m' = true) (he : ∀ a, Bank.lookup m a = Bank.lookup m' a) : m = m' :=
  Bank.ext_risingFrom h h' he

theorem Bank.lookup_map_range' (f : Nat → α) (start n a : Nat) :
    Bank.lookup ((List.range' start n).map fun i => (i, f i)) a =
      if start ≤ a ∧ a < start + n then some (f a) else none := by
  induction n generalizing start with
  | zero => simp
  | succ n ih =>
    rw [List.range'_succ, List.map_cons, Bank.lookup, ih]
    by_cases h : a = start
    · simp [h]
    · simp only [if_neg h]
      congr 1
      simp only [eq_iff_iff]
      omega

theorem Bank.risingFrom_map_range' (f : Nat → α) (start n size : Nat) (h : start + n ≤ size) :
    Bank.risingFrom start size ((List.range' start n).map fun i => (i, f i)) = true := by
  induction n generalizing start with
  | zero => rfl
  | succ n ih =>
    rw [List.range'_succ, List.map_cons, Bank.risingFrom_cons]
    exact ⟨Nat.le_refl _, by omega, ih (start + 1) (by omega)⟩

/-- A bank filled at every place below `n`. -/
theorem Bank.lookup_map_range (f : Nat → α) (n a : Nat) :
    Bank.lookup ((List.range n).map fun i => (i, f i)) a = if a < n then some (f a) else none := by
  rw [List.range_eq_range', Bank.lookup_map_range']
  simp

theorem Bank.wf_map_range (f : Nat → α) (n : Nat) :
    Bank.wf n ((List.range n).map fun i => (i, f i)) = true := by
  rw [List.range_eq_range']
  exact Bank.risingFrom_map_range' f 0 n n (by omega)

end Sys2Proof.Machine
end

