-- ==== Sys2Proof/Laws/Decode.lean ====
section
/-! SUPPORT. The fields of a packed command word. -/

namespace Sys2Proof

/-- The bits of a packed word (30_encoding R82). -/
theorem packWord_getLsbD (k : BitVec 2) (a : BusAddr) (v : Byte) (i : Nat) :
    (packWord k a v).getLsbD i =
      if i < 8 then v.getLsbD i else if i < 24 then a.getLsbD (i - 8) else k.getLsbD (i - 24) := by
  have h : (packWord k a v).getLsbD i = ((k ++ a : BitVec (2 + 16)) ++ v : BitVec (2 + 16 + 8)).getLsbD i := rfl
  rw [h, BitVec.getLsbD_append, BitVec.getLsbD_append]
  by_cases h8 : i < 8
  · simp [h8]
  · have h24 : (i - 8 < 16) = (i < 24) := by simp only [eq_iff_iff]; omega
    simp [h8, h24, Nat.sub_sub]

@[simp] theorem wordKind_packWord (k : BitVec 2) (a : BusAddr) (v : Byte) : wordKind (packWord k a v) = k := by
  apply BitVec.eq_of_getLsbD_eq
  intro i hi
  have h8 : ¬24 + i < 8 := by omega
  simp [wordKind, packWord_getLsbD, hi, h8]

@[simp] theorem wordAddr_packWord (k : BitVec 2) (a : BusAddr) (v : Byte) : wordAddr (packWord k a v) = a := by
  apply BitVec.eq_of_getLsbD_eq
  intro i hi
  have h24 : 8 + i < 24 := by omega
  simp [wordAddr, packWord_getLsbD, hi, h24]

@[simp] theorem wordData_packWord (k : BitVec 2) (a : BusAddr) (v : Byte) : wordData (packWord k a v) = v := by
  apply BitVec.eq_of_getLsbD_eq
  intro i hi
  simp [wordData, packWord_getLsbD, hi]

/-- A command word is the packing of its fields. -/
theorem packWord_fields (w : CommandWord) : packWord (wordKind w) (wordAddr w) (wordData w) = w := by
  apply BitVec.eq_of_getLsbD_eq
  intro i hi
  rw [packWord_getLsbD]
  unfold wordKind wordAddr wordData
  simp only [BitVec.getLsbD_extractLsb']
  by_cases h8 : i < 8
  · simp [h8]
  · by_cases h24 : i < 24
    · have h1 : i - 8 < 16 := by omega
      have h2 : 8 + (i - 8) = i := by omega
      simp [h8, h24, h1, h2]
    · have h1 : i - 24 < 2 := by omega
      have h2 : 24 + (i - 24) = i := by omega
      simp [h8, h24, h1, h2]

@[simp] theorem decode_tickWord (a : BusAddr) (v : Byte) : decode (packWord 0#2 a v) = .tick := by
  simp [decode]

@[simp] theorem decode_readWord (a : BusAddr) (v : Byte) : decode (packWord 1#2 a v) = decodeRead a := by
  simp [decode]

@[simp] theorem decode_writeWord (a : BusAddr) (v : Byte) : decode (packWord 2#2 a v) = decodeWrite a v := by
  simp [decode]

@[simp] theorem decode_resetWord (a : BusAddr) (v : Byte) : decode (packWord 3#2 a v) = .reset := by
  simp [decode]

/-- Every WRITE is one of the 14 register writes or the default row (30_encoding R83): to prove something of what
a WRITE decodes to, prove it of each. -/
theorem decodeWrite_cases {v : Byte} (P : BusAddr → Instr → Prop)
    (tilemap0 : P 0x2107#16 (.tilemap0 v))
    (tilemap1 : P 0x2108#16 (.tilemap1 v))
    (tilemap2 : P 0x2109#16 (.tilemap2 v))
    (tilemap3 : P 0x210A#16 (.tilemap3 v))
    (chrbase01 : P 0x210B#16 (.chrbase01 v))
    (chrbase23 : P 0x210C#16 (.chrbase23 v))
    (vportctrl : P 0x2115#16 (.vportctrl v))
    (vaddrl : P 0x2116#16 (.vaddrl v))
    (vaddrh : P 0x2117#16 (.vaddrh v))
    (vdatal : P 0x2118#16 (.vdatal v))
    (vdatah : P 0x2119#16 (.vdatah v))
    (cgaddr : P 0x2121#16 (.cgaddr v))
    (cgdata : P 0x2122#16 (.cgdata v))
    (nmien : P 0x4200#16 (.nmien v))
    (other : ∀ a, a ∉ writeAddrs → P a (.writeOther a v)) (a : BusAddr) : P a (decodeWrite a v) := by
  unfold decodeWrite
  by_cases h0 : a = 0x2107#16
  · subst h0; exact tilemap0
  rw [if_neg h0]
  by_cases h1 : a = 0x2108#16
  · subst h1; exact tilemap1
  rw [if_neg h1]
  by_cases h2 : a = 0x2109#16
  · subst h2; exact tilemap2
  rw [if_neg h2]
  by_cases h3 : a = 0x210A#16
  · subst h3; exact tilemap3
  rw [if_neg h3]
  by_cases h4 : a = 0x210B#16
  · subst h4; exact chrbase01
  rw [if_neg h4]
  by_cases h5 : a = 0x210C#16
  · subst h5; exact chrbase23
  rw [if_neg h5]
  by_cases h6 : a = 0x2115#16
  · subst h6; exact vportctrl
  rw [if_neg h6]
  by_cases h7 : a = 0x2116#16
  · subst h7; exact vaddrl
  rw [if_neg h7]
  by_cases h8 : a = 0x2117#16
  · subst h8; exact vaddrh
  rw [if_neg h8]
  by_cases h9 : a = 0x2118#16
  · subst h9; exact vdatal
  rw [if_neg h9]
  by_cases h10 : a = 0x2119#16
  · subst h10; exact vdatah
  rw [if_neg h10]
  by_cases h11 : a = 0x2121#16
  · subst h11; exact cgaddr
  rw [if_neg h11]
  by_cases h12 : a = 0x2122#16
  · subst h12; exact cgdata
  rw [if_neg h12]
  by_cases h13 : a = 0x4200#16
  · subst h13; exact nmien
  rw [if_neg h13]
  exact other a (by simp [writeAddrs, h0, h1, h2, h3, h4, h5, h6, h7, h8, h9, h10, h11, h12, h13])

/-- Every READ is one of the 2 register reads or the default row (30_encoding R83). -/
theorem decodeRead_cases (P : BusAddr → Instr → Prop) (nmistat : P 0x4210#16 .nmistat)
    (hvstat : P 0x4212#16 .hvstat) (other : ∀ a, a ∉ readAddrs → P a (.readOther a)) (a : BusAddr) :
    P a (decodeRead a) := by
  unfold decodeRead
  by_cases h0 : a = 0x4210#16
  · subst h0; exact nmistat
  rw [if_neg h0]
  by_cases h1 : a = 0x4212#16
  · subst h1; exact hvstat
  rw [if_neg h1]
  exact other a (by simp [readAddrs, h0, h1])

/-- A WRITE to an address that is no write register is the default row. -/
theorem decodeWrite_other {a : BusAddr} (v : Byte) (h : a ∉ writeAddrs) : decodeWrite a v = .writeOther a v := by
  revert h
  exact decodeWrite_cases (v := v) (fun a i => a ∉ writeAddrs → i = .writeOther a v)
    (fun h => absurd (by decide) h) (fun h => absurd (by decide) h) (fun h => absurd (by decide) h) (fun h => absurd (by decide) h)
    (fun h => absurd (by decide) h) (fun h => absurd (by decide) h) (fun h => absurd (by decide) h) (fun h => absurd (by decide) h) (fun h => absurd (by decide) h)
    (fun h => absurd (by decide) h) (fun h => absurd (by decide) h) (fun h => absurd (by decide) h) (fun h => absurd (by decide) h) (fun h => absurd (by decide) h)
    (fun _ _ _ => rfl) a

/-- A READ of an address that is no read register is the default row. -/
theorem decodeRead_other {a : BusAddr} (h : a ∉ readAddrs) : decodeRead a = .readOther a := by
  revert h
  exact decodeRead_cases (fun a i => a ∉ readAddrs → i = .readOther a)
    (fun h => absurd (by decide) h) (fun h => absurd (by decide) h) (fun _ _ _ => rfl) a

/-- A register row applies to the words of its kind and address (30_encoding R82, R83). -/
theorem registerRow_applies (k k' : BitVec 2) (a a' : BusAddr) (v : Byte) (m : String) :
    (OpcodeRow.mk m (packWord k' a' 0#8) 0x3FFFF00#26).applies (packWord k a v) = decide (k = k' ∧ a = a') := by
  unfold OpcodeRow.applies
  rw [beq_eq_decide]
  refine decide_eq_decide.2 ⟨fun h => ?_, ?_⟩
  · have h1 := congrArg wordKind h
    have h2 := congrArg wordAddr h
    have hk : ∀ i < 2, (0x3FFFF00#26).getLsbD (24 + i) = true := by decide
    have ha : ∀ i < 16, (0x3FFFF00#26).getLsbD (8 + i) = true := by decide
    have e1 : wordKind (packWord k a v &&& 0x3FFFF00#26) = wordKind (packWord k a v) := by
      apply BitVec.eq_of_getLsbD_eq
      intro i hi
      simp only [wordKind, BitVec.getLsbD_extractLsb', BitVec.getLsbD_and, hk i hi, Bool.and_true]
    have e2 : wordAddr (packWord k a v &&& 0x3FFFF00#26) = wordAddr (packWord k a v) := by
      apply BitVec.eq_of_getLsbD_eq
      intro i hi
      simp only [wordAddr, BitVec.getLsbD_extractLsb', BitVec.getLsbD_and, ha i hi, Bool.and_true]
    rw [e1, wordKind_packWord, wordKind_packWord] at h1
    rw [e2, wordAddr_packWord, wordAddr_packWord] at h2
    exact ⟨h1, h2⟩
  · rintro ⟨rfl, rfl⟩
    apply BitVec.eq_of_getLsbD_eq
    intro i hi
    have hm : ∀ i < 26, (0x3FFFF00#26).getLsbD i = decide (8 ≤ i) := by decide
    rw [BitVec.getLsbD_and, packWord_getLsbD, packWord_getLsbD, hm i hi]
    by_cases h8 : i < 8
    · simp [h8]
    · have h8' : 8 ≤ i := by omega
      simp [h8, h8']

/-- A kind row applies to the words of its kind (R82, R83). -/
theorem kindRow_applies (k k' : BitVec 2) (a : BusAddr) (v : Byte) (m : String) :
    (OpcodeRow.mk m (packWord k' 0#16 0#8) 0x3000000#26).applies (packWord k a v) = decide (k = k') := by
  unfold OpcodeRow.applies
  rw [beq_eq_decide]
  refine decide_eq_decide.2 ⟨fun h => ?_, ?_⟩
  · have h1 := congrArg wordKind h
    have hk : ∀ i < 2, (0x3000000#26).getLsbD (24 + i) = true := by decide
    have e1 : wordKind (packWord k a v &&& 0x3000000#26) = wordKind (packWord k a v) := by
      apply BitVec.eq_of_getLsbD_eq
      intro i hi
      simp only [wordKind, BitVec.getLsbD_extractLsb', BitVec.getLsbD_and, hk i hi, Bool.and_true]
    rw [e1, wordKind_packWord, wordKind_packWord] at h1
    exact h1
  · rintro rfl
    apply BitVec.eq_of_getLsbD_eq
    intro i hi
    have hm : ∀ i < 26, (0x3000000#26).getLsbD i = decide (24 ≤ i) := by decide
    rw [BitVec.getLsbD_and, packWord_getLsbD, packWord_getLsbD, hm i hi]
    by_cases h8 : i < 8
    · have h24 : ¬24 ≤ i := by omega
      simp [h8, h24]
    · by_cases h24 : i < 24
      · have h24' : ¬24 ≤ i := by omega
        simp [h8, h24, h24']
      · have h24' : 24 ≤ i := by omega
        simp [h8, h24, h24']

end Sys2Proof
end

