-- ==== Sys2Proof/Laws/Params.lean ====
section
/-! SUPPORT. The configuration's values as rewriting rules, and that its widths are those of the types. -/

namespace Sys2Proof.Machine

@[simp] theorem cfg_cycleMax : cfg.cycleMax = 340 := rfl
@[simp] theorem cfg_vblankLine : cfg.vblankLine = 225 := rfl
@[simp] theorem cfg_lines : cfg.lines = 260 := rfl
@[simp] theorem cfg_hblStart : cfg.hblStart = 0x121 := rfl
@[simp] theorem cfg_hblEnd : cfg.hblEnd = 0x15 := rfl
@[simp] theorem cfg_nLayers : cfg.nLayers = 4 := rfl
@[simp] theorem cfg_gridW : cfg.gridW = 32 := rfl
@[simp] theorem cfg_gridH : cfg.gridH = 28 := rfl
@[simp] theorem cfg_tileW : cfg.tileW = 8 := rfl
@[simp] theorem cfg_tileH : cfg.tileH = 8 := rfl
@[simp] theorem cfg_tileBytes : cfg.tileBytes = 16 := rfl
@[simp] theorem cfg_entryBytes : cfg.entryBytes = 2 := rfl
@[simp] theorem cfg_bpp : cfg.bpp = 2 := rfl
@[simp] theorem cfg_vaddrBits : cfg.vaddrBits = 15 := rfl
@[simp] theorem cfg_nBuffers : cfg.nBuffers = 2 := rfl
@[simp] theorem cfg_pixelBits : cfg.pixelBits = 16 := rfl
@[simp] theorem cfg_busAddrBits : cfg.busAddrBits = 16 := rfl
@[simp] theorem cfg_busDataBits : cfg.busDataBits = 8 := rfl
@[simp] theorem cfg_vramSize : cfg.vramSize = 65536 := rfl
@[simp] theorem cfg_cgramSize : cfg.cgramSize = 512 := rfl
@[simp] theorem cfg_cgaddrBits : cfg.cgaddrBits = 9 := rfl
@[simp] theorem cfg_oamSize : cfg.oamSize = 544 := rfl
@[simp] theorem cfg_frameBits : cfg.frameBits = 32 := rfl
@[simp] theorem cfg_tilemapShift : cfg.tilemapShift = 11 := rfl
@[simp] theorem cfg_chrShift : cfg.chrShift = 13 := rfl
@[simp] theorem cfg_incLsb : cfg.incLsb = 0 := rfl
@[simp] theorem cfg_remapLsb : cfg.remapLsb = 2 := rfl
@[simp] theorem cfg_inchiBit : cfg.inchiBit = 7 := rfl
@[simp] theorem cfg_hmirrorBit : cfg.hmirrorBit = 0 := rfl
@[simp] theorem cfg_vmirrorBit : cfg.vmirrorBit = 1 := rfl
@[simp] theorem cfg_vblBit : cfg.vblBit = 7 := rfl
@[simp] theorem cfg_hblBit : cfg.hblBit = 6 := rfl
@[simp] theorem cfg_tileidxHiLsb : cfg.tileidxHiLsb = 6 := rfl
@[simp] theorem cfg_palLsb : cfg.palLsb = 2 := rfl
@[simp] theorem cfg_plane0IsLsb : cfg.plane0IsLsb = true := rfl
@[simp] theorem cfg_fbW : cfg.fbW = 256 := rfl
@[simp] theorem cfg_fbH : cfg.fbH = 224 := rfl
@[simp] theorem cfg_fbPixels : cfg.fbPixels = 57344 := rfl
@[simp] theorem cfg_ticksPerLine : cfg.ticksPerLine = 341 := rfl
@[simp] theorem cfg_ticksPerFrame : cfg.ticksPerFrame = 88660 := rfl
@[simp] theorem cfg_ticksToVblank : cfg.ticksToVblank = 76725 := rfl

/-- The rows of the configuration that are widths or sizes are those of the types State is made of (log 10). -/
theorem Laws.cfg_widths_are_the_types :
    VramAddr = BitVec cfg.vaddrBits ∧ CgramAddr = BitVec cfg.cgaddrBits ∧ FrameNumber = BitVec cfg.frameBits ∧
      Pixel = BitVec cfg.pixelBits ∧ BusAddr = BitVec cfg.busAddrBits ∧ Byte = BitVec cfg.busDataBits ∧
      cfg.vramSize = 2 * 2 ^ cfg.vaddrBits ∧ cfg.cgramSize = 2 ^ cfg.cgaddrBits ∧
      cfg.tileBytes = cfg.tileH * cfg.bpp ∧ BufferIndex = BitVec (cfg.nBuffers - 1) :=
  ⟨rfl, rfl, rfl, rfl, rfl, rfl, rfl, rfl, rfl, rfl⟩

end Sys2Proof.Machine
end

