-- ==== Sys2Proof/Laws/State.lean ====
section
/-! SUPPORT. One lemma per field per named update of the state, so that no proof unfolds a record update. -/

namespace Sys2Proof.Machine

variable (s : State)

/-! ### quiet -/

@[simp] theorem State.quiet_cycle : (s.quiet).cycle = s.cycle := rfl
@[simp] theorem State.quiet_scanline : (s.quiet).scanline = s.scanline := rfl
@[simp] theorem State.quiet_frameCount : (s.quiet).frameCount = s.frameCount := rfl
@[simp] theorem State.quiet_nmiFlag : (s.quiet).nmiFlag = s.nmiFlag := rfl
@[simp] theorem State.quiet_nmiEnable : (s.quiet).nmiEnable = s.nmiEnable := rfl
@[simp] theorem State.quiet_layer0 : (s.quiet).layer0 = s.layer0 := rfl
@[simp] theorem State.quiet_layer1 : (s.quiet).layer1 = s.layer1 := rfl
@[simp] theorem State.quiet_layer2 : (s.quiet).layer2 = s.layer2 := rfl
@[simp] theorem State.quiet_layer3 : (s.quiet).layer3 = s.layer3 := rfl
@[simp] theorem State.quiet_vramAddress : (s.quiet).vramAddress = s.vramAddress := rfl
@[simp] theorem State.quiet_vramIncrement : (s.quiet).vramIncrement = s.vramIncrement := rfl
@[simp] theorem State.quiet_vramRemapMode : (s.quiet).vramRemapMode = s.vramRemapMode := rfl
@[simp] theorem State.quiet_incrementOnHighByteWrite : (s.quiet).incrementOnHighByteWrite = s.incrementOnHighByteWrite := rfl
@[simp] theorem State.quiet_cgramAddress : (s.quiet).cgramAddress = s.cgramAddress := rfl
@[simp] theorem State.quiet_vram : (s.quiet).vram = s.vram := rfl
@[simp] theorem State.quiet_oam : (s.quiet).oam = s.oam := rfl
@[simp] theorem State.quiet_cgram : (s.quiet).cgram = s.cgram := rfl
@[simp] theorem State.quiet_fb0 : (s.quiet).fb0 = s.fb0 := rfl
@[simp] theorem State.quiet_fb1 : (s.quiet).fb1 = s.fb1 := rfl
@[simp] theorem State.quiet_active : (s.quiet).active = s.active := rfl
@[simp] theorem State.quiet_voBuf : (s.quiet).voBuf = s.voBuf := rfl
@[simp] theorem State.quiet_voFrame : (s.quiet).voFrame = s.voFrame := rfl
@[simp] theorem State.quiet_handedOver : (s.quiet).handedOver = s.handedOver := rfl
@[simp] theorem State.quiet_out : (s.quiet).out = ⟨[], none⟩ := rfl
@[simp] theorem State.quiet_draws : (s.quiet).draws = s.draws := rfl
@[simp] theorem State.quiet_inputs : (s.quiet).inputs = s.inputs := rfl

/-! ### answer -/

@[simp] theorem State.answer_cycle (b : Byte) : (s.answer b).cycle = s.cycle := rfl
@[simp] theorem State.answer_scanline (b : Byte) : (s.answer b).scanline = s.scanline := rfl
@[simp] theorem State.answer_frameCount (b : Byte) : (s.answer b).frameCount = s.frameCount := rfl
@[simp] theorem State.answer_nmiFlag (b : Byte) : (s.answer b).nmiFlag = s.nmiFlag := rfl
@[simp] theorem State.answer_nmiEnable (b : Byte) : (s.answer b).nmiEnable = s.nmiEnable := rfl
@[simp] theorem State.answer_layer0 (b : Byte) : (s.answer b).layer0 = s.layer0 := rfl
@[simp] theorem State.answer_layer1 (b : Byte) : (s.answer b).layer1 = s.layer1 := rfl
@[simp] theorem State.answer_layer2 (b : Byte) : (s.answer b).layer2 = s.layer2 := rfl
@[simp] theorem State.answer_layer3 (b : Byte) : (s.answer b).layer3 = s.layer3 := rfl
@[simp] theorem State.answer_vramAddress (b : Byte) : (s.answer b).vramAddress = s.vramAddress := rfl
@[simp] theorem State.answer_vramIncrement (b : Byte) : (s.answer b).vramIncrement = s.vramIncrement := rfl
@[simp] theorem State.answer_vramRemapMode (b : Byte) : (s.answer b).vramRemapMode = s.vramRemapMode := rfl
@[simp] theorem State.answer_incrementOnHighByteWrite (b : Byte) : (s.answer b).incrementOnHighByteWrite = s.incrementOnHighByteWrite := rfl
@[simp] theorem State.answer_cgramAddress (b : Byte) : (s.answer b).cgramAddress = s.cgramAddress := rfl
@[simp] theorem State.answer_vram (b : Byte) : (s.answer b).vram = s.vram := rfl
@[simp] theorem State.answer_oam (b : Byte) : (s.answer b).oam = s.oam := rfl
@[simp] theorem State.answer_cgram (b : Byte) : (s.answer b).cgram = s.cgram := rfl
@[simp] theorem State.answer_fb0 (b : Byte) : (s.answer b).fb0 = s.fb0 := rfl
@[simp] theorem State.answer_fb1 (b : Byte) : (s.answer b).fb1 = s.fb1 := rfl
@[simp] theorem State.answer_active (b : Byte) : (s.answer b).active = s.active := rfl
@[simp] theorem State.answer_voBuf (b : Byte) : (s.answer b).voBuf = s.voBuf := rfl
@[simp] theorem State.answer_voFrame (b : Byte) : (s.answer b).voFrame = s.voFrame := rfl
@[simp] theorem State.answer_handedOver (b : Byte) : (s.answer b).handedOver = s.handedOver := rfl
@[simp] theorem State.answer_out (b : Byte) : (s.answer b).out = ⟨[], some b⟩ := rfl
@[simp] theorem State.answer_draws (b : Byte) : (s.answer b).draws = s.draws := rfl
@[simp] theorem State.answer_inputs (b : Byte) : (s.answer b).inputs = s.inputs := rfl

/-! ### emit -/

@[simp] theorem State.emit_cycle (e : OutEvent) : (s.emit e).cycle = s.cycle := rfl
@[simp] theorem State.emit_scanline (e : OutEvent) : (s.emit e).scanline = s.scanline := rfl
@[simp] theorem State.emit_frameCount (e : OutEvent) : (s.emit e).frameCount = s.frameCount := rfl
@[simp] theorem State.emit_nmiFlag (e : OutEvent) : (s.emit e).nmiFlag = s.nmiFlag := rfl
@[simp] theorem State.emit_nmiEnable (e : OutEvent) : (s.emit e).nmiEnable = s.nmiEnable := rfl
@[simp] theorem State.emit_layer0 (e : OutEvent) : (s.emit e).layer0 = s.layer0 := rfl
@[simp] theorem State.emit_layer1 (e : OutEvent) : (s.emit e).layer1 = s.layer1 := rfl
@[simp] theorem State.emit_layer2 (e : OutEvent) : (s.emit e).layer2 = s.layer2 := rfl
@[simp] theorem State.emit_layer3 (e : OutEvent) : (s.emit e).layer3 = s.layer3 := rfl
@[simp] theorem State.emit_vramAddress (e : OutEvent) : (s.emit e).vramAddress = s.vramAddress := rfl
@[simp] theorem State.emit_vramIncrement (e : OutEvent) : (s.emit e).vramIncrement = s.vramIncrement := rfl
@[simp] theorem State.emit_vramRemapMode (e : OutEvent) : (s.emit e).vramRemapMode = s.vramRemapMode := rfl
@[simp] theorem State.emit_incrementOnHighByteWrite (e : OutEvent) : (s.emit e).incrementOnHighByteWrite = s.incrementOnHighByteWrite := rfl
@[simp] theorem State.emit_cgramAddress (e : OutEvent) : (s.emit e).cgramAddress = s.cgramAddress := rfl
@[simp] theorem State.emit_vram (e : OutEvent) : (s.emit e).vram = s.vram := rfl
@[simp] theorem State.emit_oam (e : OutEvent) : (s.emit e).oam = s.oam := rfl
@[simp] theorem State.emit_cgram (e : OutEvent) : (s.emit e).cgram = s.cgram := rfl
@[simp] theorem State.emit_fb0 (e : OutEvent) : (s.emit e).fb0 = s.fb0 := rfl
@[simp] theorem State.emit_fb1 (e : OutEvent) : (s.emit e).fb1 = s.fb1 := rfl
@[simp] theorem State.emit_active (e : OutEvent) : (s.emit e).active = s.active := rfl
@[simp] theorem State.emit_voBuf (e : OutEvent) : (s.emit e).voBuf = s.voBuf := rfl
@[simp] theorem State.emit_voFrame (e : OutEvent) : (s.emit e).voFrame = s.voFrame := rfl
@[simp] theorem State.emit_handedOver (e : OutEvent) : (s.emit e).handedOver = s.handedOver := rfl
@[simp] theorem State.emit_out (e : OutEvent) : (s.emit e).out = ⟨s.out.events ++ [e], s.out.readData⟩ := rfl
@[simp] theorem State.emit_draws (e : OutEvent) : (s.emit e).draws = s.draws := rfl
@[simp] theorem State.emit_inputs (e : OutEvent) : (s.emit e).inputs = s.inputs := rfl

/-! ### withInputs -/

@[simp] theorem State.withInputs_cycle (r : List Ports) : (s.withInputs r).cycle = s.cycle := rfl
@[simp] theorem State.withInputs_scanline (r : List Ports) : (s.withInputs r).scanline = s.scanline := rfl
@[simp] theorem State.withInputs_frameCount (r : List Ports) : (s.withInputs r).frameCount = s.frameCount := rfl
@[simp] theorem State.withInputs_nmiFlag (r : List Ports) : (s.withInputs r).nmiFlag = s.nmiFlag := rfl
@[simp] theorem State.withInputs_nmiEnable (r : List Ports) : (s.withInputs r).nmiEnable = s.nmiEnable := rfl
@[simp] theorem State.withInputs_layer0 (r : List Ports) : (s.withInputs r).layer0 = s.layer0 := rfl
@[simp] theorem State.withInputs_layer1 (r : List Ports) : (s.withInputs r).layer1 = s.layer1 := rfl
@[simp] theorem State.withInputs_layer2 (r : List Ports) : (s.withInputs r).layer2 = s.layer2 := rfl
@[simp] theorem State.withInputs_layer3 (r : List Ports) : (s.withInputs r).layer3 = s.layer3 := rfl
@[simp] theorem State.withInputs_vramAddress (r : List Ports) : (s.withInputs r).vramAddress = s.vramAddress := rfl
@[simp] theorem State.withInputs_vramIncrement (r : List Ports) : (s.withInputs r).vramIncrement = s.vramIncrement := rfl
@[simp] theorem State.withInputs_vramRemapMode (r : List Ports) : (s.withInputs r).vramRemapMode = s.vramRemapMode := rfl
@[simp] theorem State.withInputs_incrementOnHighByteWrite (r : List Ports) : (s.withInputs r).incrementOnHighByteWrite = s.incrementOnHighByteWrite := rfl
@[simp] theorem State.withInputs_cgramAddress (r : List Ports) : (s.withInputs r).cgramAddress = s.cgramAddress := rfl
@[simp] theorem State.withInputs_vram (r : List Ports) : (s.withInputs r).vram = s.vram := rfl
@[simp] theorem State.withInputs_oam (r : List Ports) : (s.withInputs r).oam = s.oam := rfl
@[simp] theorem State.withInputs_cgram (r : List Ports) : (s.withInputs r).cgram = s.cgram := rfl
@[simp] theorem State.withInputs_fb0 (r : List Ports) : (s.withInputs r).fb0 = s.fb0 := rfl
@[simp] theorem State.withInputs_fb1 (r : List Ports) : (s.withInputs r).fb1 = s.fb1 := rfl
@[simp] theorem State.withInputs_active (r : List Ports) : (s.withInputs r).active = s.active := rfl
@[simp] theorem State.withInputs_voBuf (r : List Ports) : (s.withInputs r).voBuf = s.voBuf := rfl
@[simp] theorem State.withInputs_voFrame (r : List Ports) : (s.withInputs r).voFrame = s.voFrame := rfl
@[simp] theorem State.withInputs_handedOver (r : List Ports) : (s.withInputs r).handedOver = s.handedOver := rfl
@[simp] theorem State.withInputs_out (r : List Ports) : (s.withInputs r).out = s.out := rfl
@[simp] theorem State.withInputs_draws (r : List Ports) : (s.withInputs r).draws = s.draws := rfl
@[simp] theorem State.withInputs_inputs (r : List Ports) : (s.withInputs r).inputs = r := rfl

/-! ### vramWrite -/

@[simp] theorem State.vramWrite_cycle (a : Nat) (v : Byte) : (s.vramWrite a v).cycle = s.cycle := rfl
@[simp] theorem State.vramWrite_scanline (a : Nat) (v : Byte) : (s.vramWrite a v).scanline = s.scanline := rfl
@[simp] theorem State.vramWrite_frameCount (a : Nat) (v : Byte) : (s.vramWrite a v).frameCount = s.frameCount := rfl
@[simp] theorem State.vramWrite_nmiFlag (a : Nat) (v : Byte) : (s.vramWrite a v).nmiFlag = s.nmiFlag := rfl
@[simp] theorem State.vramWrite_nmiEnable (a : Nat) (v : Byte) : (s.vramWrite a v).nmiEnable = s.nmiEnable := rfl
@[simp] theorem State.vramWrite_layer0 (a : Nat) (v : Byte) : (s.vramWrite a v).layer0 = s.layer0 := rfl
@[simp] theorem State.vramWrite_layer1 (a : Nat) (v : Byte) : (s.vramWrite a v).layer1 = s.layer1 := rfl
@[simp] theorem State.vramWrite_layer2 (a : Nat) (v : Byte) : (s.vramWrite a v).layer2 = s.layer2 := rfl
@[simp] theorem State.vramWrite_layer3 (a : Nat) (v : Byte) : (s.vramWrite a v).layer3 = s.layer3 := rfl
@[simp] theorem State.vramWrite_vramAddress (a : Nat) (v : Byte) : (s.vramWrite a v).vramAddress = s.vramAddress := rfl
@[simp] theorem State.vramWrite_vramIncrement (a : Nat) (v : Byte) : (s.vramWrite a v).vramIncrement = s.vramIncrement := rfl
@[simp] theorem State.vramWrite_vramRemapMode (a : Nat) (v : Byte) : (s.vramWrite a v).vramRemapMode = s.vramRemapMode := rfl
@[simp] theorem State.vramWrite_incrementOnHighByteWrite (a : Nat) (v : Byte) : (s.vramWrite a v).incrementOnHighByteWrite = s.incrementOnHighByteWrite := rfl
@[simp] theorem State.vramWrite_cgramAddress (a : Nat) (v : Byte) : (s.vramWrite a v).cgramAddress = s.cgramAddress := rfl
@[simp] theorem State.vramWrite_vram (a : Nat) (v : Byte) : (s.vramWrite a v).vram = Bank.store s.vram (a % cfg.vramSize) v := rfl
@[simp] theorem State.vramWrite_oam (a : Nat) (v : Byte) : (s.vramWrite a v).oam = s.oam := rfl
@[simp] theorem State.vramWrite_cgram (a : Nat) (v : Byte) : (s.vramWrite a v).cgram = s.cgram := rfl
@[simp] theorem State.vramWrite_fb0 (a : Nat) (v : Byte) : (s.vramWrite a v).fb0 = s.fb0 := rfl
@[simp] theorem State.vramWrite_fb1 (a : Nat) (v : Byte) : (s.vramWrite a v).fb1 = s.fb1 := rfl
@[simp] theorem State.vramWrite_active (a : Nat) (v : Byte) : (s.vramWrite a v).active = s.active := rfl
@[simp] theorem State.vramWrite_voBuf (a : Nat) (v : Byte) : (s.vramWrite a v).voBuf = s.voBuf := rfl
@[simp] theorem State.vramWrite_voFrame (a : Nat) (v : Byte) : (s.vramWrite a v).voFrame = s.voFrame := rfl
@[simp] theorem State.vramWrite_handedOver (a : Nat) (v : Byte) : (s.vramWrite a v).handedOver = s.handedOver := rfl
@[simp] theorem State.vramWrite_out (a : Nat) (v : Byte) : (s.vramWrite a v).out = s.out := rfl
@[simp] theorem State.vramWrite_draws (a : Nat) (v : Byte) : (s.vramWrite a v).draws = s.draws := rfl
@[simp] theorem State.vramWrite_inputs (a : Nat) (v : Byte) : (s.vramWrite a v).inputs = s.inputs := rfl

/-! ### cgWrite -/

@[simp] theorem State.cgWrite_cycle (a : Nat) (v : Byte) : (s.cgWrite a v).cycle = s.cycle := rfl
@[simp] theorem State.cgWrite_scanline (a : Nat) (v : Byte) : (s.cgWrite a v).scanline = s.scanline := rfl
@[simp] theorem State.cgWrite_frameCount (a : Nat) (v : Byte) : (s.cgWrite a v).frameCount = s.frameCount := rfl
@[simp] theorem State.cgWrite_nmiFlag (a : Nat) (v : Byte) : (s.cgWrite a v).nmiFlag = s.nmiFlag := rfl
@[simp] theorem State.cgWrite_nmiEnable (a : Nat) (v : Byte) : (s.cgWrite a v).nmiEnable = s.nmiEnable := rfl
@[simp] theorem State.cgWrite_layer0 (a : Nat) (v : Byte) : (s.cgWrite a v).layer0 = s.layer0 := rfl
@[simp] theorem State.cgWrite_layer1 (a : Nat) (v : Byte) : (s.cgWrite a v).layer1 = s.layer1 := rfl
@[simp] theorem State.cgWrite_layer2 (a : Nat) (v : Byte) : (s.cgWrite a v).layer2 = s.layer2 := rfl
@[simp] theorem State.cgWrite_layer3 (a : Nat) (v : Byte) : (s.cgWrite a v).layer3 = s.layer3 := rfl
@[simp] theorem State.cgWrite_vramAddress (a : Nat) (v : Byte) : (s.cgWrite a v).vramAddress = s.vramAddress := rfl
@[simp] theorem State.cgWrite_vramIncrement (a : Nat) (v : Byte) : (s.cgWrite a v).vramIncrement = s.vramIncrement := rfl
@[simp] theorem State.cgWrite_vramRemapMode (a : Nat) (v : Byte) : (s.cgWrite a v).vramRemapMode = s.vramRemapMode := rfl
@[simp] theorem State.cgWrite_incrementOnHighByteWrite (a : Nat) (v : Byte) : (s.cgWrite a v).incrementOnHighByteWrite = s.incrementOnHighByteWrite := rfl
@[simp] theorem State.cgWrite_cgramAddress (a : Nat) (v : Byte) : (s.cgWrite a v).cgramAddress = s.cgramAddress := rfl
@[simp] theorem State.cgWrite_vram (a : Nat) (v : Byte) : (s.cgWrite a v).vram = s.vram := rfl
@[simp] theorem State.cgWrite_oam (a : Nat) (v : Byte) : (s.cgWrite a v).oam = s.oam := rfl
@[simp] theorem State.cgWrite_cgram (a : Nat) (v : Byte) : (s.cgWrite a v).cgram = Bank.store s.cgram (a % cfg.cgramSize) v := rfl
@[simp] theorem State.cgWrite_fb0 (a : Nat) (v : Byte) : (s.cgWrite a v).fb0 = s.fb0 := rfl
@[simp] theorem State.cgWrite_fb1 (a : Nat) (v : Byte) : (s.cgWrite a v).fb1 = s.fb1 := rfl
@[simp] theorem State.cgWrite_active (a : Nat) (v : Byte) : (s.cgWrite a v).active = s.active := rfl
@[simp] theorem State.cgWrite_voBuf (a : Nat) (v : Byte) : (s.cgWrite a v).voBuf = s.voBuf := rfl
@[simp] theorem State.cgWrite_voFrame (a : Nat) (v : Byte) : (s.cgWrite a v).voFrame = s.voFrame := rfl
@[simp] theorem State.cgWrite_handedOver (a : Nat) (v : Byte) : (s.cgWrite a v).handedOver = s.handedOver := rfl
@[simp] theorem State.cgWrite_out (a : Nat) (v : Byte) : (s.cgWrite a v).out = s.out := rfl
@[simp] theorem State.cgWrite_draws (a : Nat) (v : Byte) : (s.cgWrite a v).draws = s.draws := rfl
@[simp] theorem State.cgWrite_inputs (a : Nat) (v : Byte) : (s.cgWrite a v).inputs = s.inputs := rfl

/-! ### stepVramAddress -/

@[simp] theorem State.stepVramAddress_cycle (b : Bool) : (s.stepVramAddress b).cycle = s.cycle := rfl
@[simp] theorem State.stepVramAddress_scanline (b : Bool) : (s.stepVramAddress b).scanline = s.scanline := rfl
@[simp] theorem State.stepVramAddress_frameCount (b : Bool) : (s.stepVramAddress b).frameCount = s.frameCount := rfl
@[simp] theorem State.stepVramAddress_nmiFlag (b : Bool) : (s.stepVramAddress b).nmiFlag = s.nmiFlag := rfl
@[simp] theorem State.stepVramAddress_nmiEnable (b : Bool) : (s.stepVramAddress b).nmiEnable = s.nmiEnable := rfl
@[simp] theorem State.stepVramAddress_layer0 (b : Bool) : (s.stepVramAddress b).layer0 = s.layer0 := rfl
@[simp] theorem State.stepVramAddress_layer1 (b : Bool) : (s.stepVramAddress b).layer1 = s.layer1 := rfl
@[simp] theorem State.stepVramAddress_layer2 (b : Bool) : (s.stepVramAddress b).layer2 = s.layer2 := rfl
@[simp] theorem State.stepVramAddress_layer3 (b : Bool) : (s.stepVramAddress b).layer3 = s.layer3 := rfl
@[simp] theorem State.stepVramAddress_vramAddress (b : Bool) : (s.stepVramAddress b).vramAddress = if b then incrementedAddr s.vramAddress s.vramIncrement else s.vramAddress := rfl
@[simp] theorem State.stepVramAddress_vramIncrement (b : Bool) : (s.stepVramAddress b).vramIncrement = s.vramIncrement := rfl
@[simp] theorem State.stepVramAddress_vramRemapMode (b : Bool) : (s.stepVramAddress b).vramRemapMode = s.vramRemapMode := rfl
@[simp] theorem State.stepVramAddress_incrementOnHighByteWrite (b : Bool) : (s.stepVramAddress b).incrementOnHighByteWrite = s.incrementOnHighByteWrite := rfl
@[simp] theorem State.stepVramAddress_cgramAddress (b : Bool) : (s.stepVramAddress b).cgramAddress = s.cgramAddress := rfl
@[simp] theorem State.stepVramAddress_vram (b : Bool) : (s.stepVramAddress b).vram = s.vram := rfl
@[simp] theorem State.stepVramAddress_oam (b : Bool) : (s.stepVramAddress b).oam = s.oam := rfl
@[simp] theorem State.stepVramAddress_cgram (b : Bool) : (s.stepVramAddress b).cgram = s.cgram := rfl
@[simp] theorem State.stepVramAddress_fb0 (b : Bool) : (s.stepVramAddress b).fb0 = s.fb0 := rfl
@[simp] theorem State.stepVramAddress_fb1 (b : Bool) : (s.stepVramAddress b).fb1 = s.fb1 := rfl
@[simp] theorem State.stepVramAddress_active (b : Bool) : (s.stepVramAddress b).active = s.active := rfl
@[simp] theorem State.stepVramAddress_voBuf (b : Bool) : (s.stepVramAddress b).voBuf = s.voBuf := rfl
@[simp] theorem State.stepVramAddress_voFrame (b : Bool) : (s.stepVramAddress b).voFrame = s.voFrame := rfl
@[simp] theorem State.stepVramAddress_handedOver (b : Bool) : (s.stepVramAddress b).handedOver = s.handedOver := rfl
@[simp] theorem State.stepVramAddress_out (b : Bool) : (s.stepVramAddress b).out = s.out := rfl
@[simp] theorem State.stepVramAddress_draws (b : Bool) : (s.stepVramAddress b).draws = s.draws := rfl
@[simp] theorem State.stepVramAddress_inputs (b : Bool) : (s.stepVramAddress b).inputs = s.inputs := rfl

/-! ### stepCgramAddress -/

@[simp] theorem State.stepCgramAddress_cycle : (s.stepCgramAddress).cycle = s.cycle := rfl
@[simp] theorem State.stepCgramAddress_scanline : (s.stepCgramAddress).scanline = s.scanline := rfl
@[simp] theorem State.stepCgramAddress_frameCount : (s.stepCgramAddress).frameCount = s.frameCount := rfl
@[simp] theorem State.stepCgramAddress_nmiFlag : (s.stepCgramAddress).nmiFlag = s.nmiFlag := rfl
@[simp] theorem State.stepCgramAddress_nmiEnable : (s.stepCgramAddress).nmiEnable = s.nmiEnable := rfl
@[simp] theorem State.stepCgramAddress_layer0 : (s.stepCgramAddress).layer0 = s.layer0 := rfl
@[simp] theorem State.stepCgramAddress_layer1 : (s.stepCgramAddress).layer1 = s.layer1 := rfl
@[simp] theorem State.stepCgramAddress_layer2 : (s.stepCgramAddress).layer2 = s.layer2 := rfl
@[simp] theorem State.stepCgramAddress_layer3 : (s.stepCgramAddress).layer3 = s.layer3 := rfl
@[simp] theorem State.stepCgramAddress_vramAddress : (s.stepCgramAddress).vramAddress = s.vramAddress := rfl
@[simp] theorem State.stepCgramAddress_vramIncrement : (s.stepCgramAddress).vramIncrement = s.vramIncrement := rfl
@[simp] theorem State.stepCgramAddress_vramRemapMode : (s.stepCgramAddress).vramRemapMode = s.vramRemapMode := rfl
@[simp] theorem State.stepCgramAddress_incrementOnHighByteWrite : (s.stepCgramAddress).incrementOnHighByteWrite = s.incrementOnHighByteWrite := rfl
@[simp] theorem State.stepCgramAddress_cgramAddress : (s.stepCgramAddress).cgramAddress = s.cgramAddress + 1#9 := rfl
@[simp] theorem State.stepCgramAddress_vram : (s.stepCgramAddress).vram = s.vram := rfl
@[simp] theorem State.stepCgramAddress_oam : (s.stepCgramAddress).oam = s.oam := rfl
@[simp] theorem State.stepCgramAddress_cgram : (s.stepCgramAddress).cgram = s.cgram := rfl
@[simp] theorem State.stepCgramAddress_fb0 : (s.stepCgramAddress).fb0 = s.fb0 := rfl
@[simp] theorem State.stepCgramAddress_fb1 : (s.stepCgramAddress).fb1 = s.fb1 := rfl
@[simp] theorem State.stepCgramAddress_active : (s.stepCgramAddress).active = s.active := rfl
@[simp] theorem State.stepCgramAddress_voBuf : (s.stepCgramAddress).voBuf = s.voBuf := rfl
@[simp] theorem State.stepCgramAddress_voFrame : (s.stepCgramAddress).voFrame = s.voFrame := rfl
@[simp] theorem State.stepCgramAddress_handedOver : (s.stepCgramAddress).handedOver = s.handedOver := rfl
@[simp] theorem State.stepCgramAddress_out : (s.stepCgramAddress).out = s.out := rfl
@[simp] theorem State.stepCgramAddress_draws : (s.stepCgramAddress).draws = s.draws := rfl
@[simp] theorem State.stepCgramAddress_inputs : (s.stepCgramAddress).inputs = s.inputs := rfl

/-! ### swapBuffers -/

@[simp] theorem State.swapBuffers_cycle : (s.swapBuffers).cycle = s.cycle := rfl
@[simp] theorem State.swapBuffers_scanline : (s.swapBuffers).scanline = s.scanline := rfl
@[simp] theorem State.swapBuffers_frameCount : (s.swapBuffers).frameCount = s.frameCount := rfl
@[simp] theorem State.swapBuffers_nmiFlag : (s.swapBuffers).nmiFlag = s.nmiFlag := rfl
@[simp] theorem State.swapBuffers_nmiEnable : (s.swapBuffers).nmiEnable = s.nmiEnable := rfl
@[simp] theorem State.swapBuffers_layer0 : (s.swapBuffers).layer0 = s.layer0 := rfl
@[simp] theorem State.swapBuffers_layer1 : (s.swapBuffers).layer1 = s.layer1 := rfl
@[simp] theorem State.swapBuffers_layer2 : (s.swapBuffers).layer2 = s.layer2 := rfl
@[simp] theorem State.swapBuffers_layer3 : (s.swapBuffers).layer3 = s.layer3 := rfl
@[simp] theorem State.swapBuffers_vramAddress : (s.swapBuffers).vramAddress = s.vramAddress := rfl
@[simp] theorem State.swapBuffers_vramIncrement : (s.swapBuffers).vramIncrement = s.vramIncrement := rfl
@[simp] theorem State.swapBuffers_vramRemapMode : (s.swapBuffers).vramRemapMode = s.vramRemapMode := rfl
@[simp] theorem State.swapBuffers_incrementOnHighByteWrite : (s.swapBuffers).incrementOnHighByteWrite = s.incrementOnHighByteWrite := rfl
@[simp] theorem State.swapBuffers_cgramAddress : (s.swapBuffers).cgramAddress = s.cgramAddress := rfl
@[simp] theorem State.swapBuffers_vram : (s.swapBuffers).vram = s.vram := rfl
@[simp] theorem State.swapBuffers_oam : (s.swapBuffers).oam = s.oam := rfl
@[simp] theorem State.swapBuffers_cgram : (s.swapBuffers).cgram = s.cgram := rfl
@[simp] theorem State.swapBuffers_fb0 : (s.swapBuffers).fb0 = s.fb0 := rfl
@[simp] theorem State.swapBuffers_fb1 : (s.swapBuffers).fb1 = s.fb1 := rfl
@[simp] theorem State.swapBuffers_active : (s.swapBuffers).active = 1#1 - s.active := rfl
@[simp] theorem State.swapBuffers_voBuf : (s.swapBuffers).voBuf = s.voBuf := rfl
@[simp] theorem State.swapBuffers_voFrame : (s.swapBuffers).voFrame = s.voFrame := rfl
@[simp] theorem State.swapBuffers_handedOver : (s.swapBuffers).handedOver = s.handedOver := rfl
@[simp] theorem State.swapBuffers_out : (s.swapBuffers).out = s.out := rfl
@[simp] theorem State.swapBuffers_draws : (s.swapBuffers).draws = s.draws := rfl
@[simp] theorem State.swapBuffers_inputs : (s.swapBuffers).inputs = s.inputs := rfl

/-! ### handOver -/

@[simp] theorem State.handOver_cycle (d : BufferIndex) : (s.handOver d).cycle = s.cycle := rfl
@[simp] theorem State.handOver_scanline (d : BufferIndex) : (s.handOver d).scanline = s.scanline := rfl
@[simp] theorem State.handOver_frameCount (d : BufferIndex) : (s.handOver d).frameCount = s.frameCount := rfl
@[simp] theorem State.handOver_nmiFlag (d : BufferIndex) : (s.handOver d).nmiFlag = s.nmiFlag := rfl
@[simp] theorem State.handOver_nmiEnable (d : BufferIndex) : (s.handOver d).nmiEnable = s.nmiEnable := rfl
@[simp] theorem State.handOver_layer0 (d : BufferIndex) : (s.handOver d).layer0 = s.layer0 := rfl
@[simp] theorem State.handOver_layer1 (d : BufferIndex) : (s.handOver d).layer1 = s.layer1 := rfl
@[simp] theorem State.handOver_layer2 (d : BufferIndex) : (s.handOver d).layer2 = s.layer2 := rfl
@[simp] theorem State.handOver_layer3 (d : BufferIndex) : (s.handOver d).layer3 = s.layer3 := rfl
@[simp] theorem State.handOver_vramAddress (d : BufferIndex) : (s.handOver d).vramAddress = s.vramAddress := rfl
@[simp] theorem State.handOver_vramIncrement (d : BufferIndex) : (s.handOver d).vramIncrement = s.vramIncrement := rfl
@[simp] theorem State.handOver_vramRemapMode (d : BufferIndex) : (s.handOver d).vramRemapMode = s.vramRemapMode := rfl
@[simp] theorem State.handOver_incrementOnHighByteWrite (d : BufferIndex) : (s.handOver d).incrementOnHighByteWrite = s.incrementOnHighByteWrite := rfl
@[simp] theorem State.handOver_cgramAddress (d : BufferIndex) : (s.handOver d).cgramAddress = s.cgramAddress := rfl
@[simp] theorem State.handOver_vram (d : BufferIndex) : (s.handOver d).vram = s.vram := rfl
@[simp] theorem State.handOver_oam (d : BufferIndex) : (s.handOver d).oam = s.oam := rfl
@[simp] theorem State.handOver_cgram (d : BufferIndex) : (s.handOver d).cgram = s.cgram := rfl
@[simp] theorem State.handOver_fb0 (d : BufferIndex) : (s.handOver d).fb0 = s.fb0 := rfl
@[simp] theorem State.handOver_fb1 (d : BufferIndex) : (s.handOver d).fb1 = s.fb1 := rfl
@[simp] theorem State.handOver_active (d : BufferIndex) : (s.handOver d).active = s.active := rfl
@[simp] theorem State.handOver_voBuf (d : BufferIndex) : (s.handOver d).voBuf = d := rfl
@[simp] theorem State.handOver_voFrame (d : BufferIndex) : (s.handOver d).voFrame = s.frameCount := rfl
@[simp] theorem State.handOver_handedOver (d : BufferIndex) : (s.handOver d).handedOver = true := rfl
@[simp] theorem State.handOver_out (d : BufferIndex) : (s.handOver d).out = ⟨s.out.events ++ [.frameHandoff d s.frameCount], s.out.readData⟩ := rfl
@[simp] theorem State.handOver_draws (d : BufferIndex) : (s.handOver d).draws = s.draws := rfl
@[simp] theorem State.handOver_inputs (d : BufferIndex) : (s.handOver d).inputs = s.inputs := rfl

/-! ### startLine -/

@[simp] theorem State.startLine_cycle : (s.startLine).cycle = 0#9 := rfl
@[simp] theorem State.startLine_scanline : (s.startLine).scanline = s.scanline := rfl
@[simp] theorem State.startLine_frameCount : (s.startLine).frameCount = s.frameCount := rfl
@[simp] theorem State.startLine_nmiFlag : (s.startLine).nmiFlag = s.nmiFlag := rfl
@[simp] theorem State.startLine_nmiEnable : (s.startLine).nmiEnable = s.nmiEnable := rfl
@[simp] theorem State.startLine_layer0 : (s.startLine).layer0 = s.layer0 := rfl
@[simp] theorem State.startLine_layer1 : (s.startLine).layer1 = s.layer1 := rfl
@[simp] theorem State.startLine_layer2 : (s.startLine).layer2 = s.layer2 := rfl
@[simp] theorem State.startLine_layer3 : (s.startLine).layer3 = s.layer3 := rfl
@[simp] theorem State.startLine_vramAddress : (s.startLine).vramAddress = s.vramAddress := rfl
@[simp] theorem State.startLine_vramIncrement : (s.startLine).vramIncrement = s.vramIncrement := rfl
@[simp] theorem State.startLine_vramRemapMode : (s.startLine).vramRemapMode = s.vramRemapMode := rfl
@[simp] theorem State.startLine_incrementOnHighByteWrite : (s.startLine).incrementOnHighByteWrite = s.incrementOnHighByteWrite := rfl
@[simp] theorem State.startLine_cgramAddress : (s.startLine).cgramAddress = s.cgramAddress := rfl
@[simp] theorem State.startLine_vram : (s.startLine).vram = s.vram := rfl
@[simp] theorem State.startLine_oam : (s.startLine).oam = s.oam := rfl
@[simp] theorem State.startLine_cgram : (s.startLine).cgram = s.cgram := rfl
@[simp] theorem State.startLine_fb0 : (s.startLine).fb0 = s.fb0 := rfl
@[simp] theorem State.startLine_fb1 : (s.startLine).fb1 = s.fb1 := rfl
@[simp] theorem State.startLine_active : (s.startLine).active = s.active := rfl
@[simp] theorem State.startLine_voBuf : (s.startLine).voBuf = s.voBuf := rfl
@[simp] theorem State.startLine_voFrame : (s.startLine).voFrame = s.voFrame := rfl
@[simp] theorem State.startLine_handedOver : (s.startLine).handedOver = s.handedOver := rfl
@[simp] theorem State.startLine_out : (s.startLine).out = s.out := rfl
@[simp] theorem State.startLine_draws : (s.startLine).draws = s.draws := rfl
@[simp] theorem State.startLine_inputs : (s.startLine).inputs = s.inputs := rfl

/-! ### toScanline -/

@[simp] theorem State.toScanline_cycle (n : Nat) : (s.toScanline n).cycle = s.cycle := rfl
@[simp] theorem State.toScanline_scanline (n : Nat) : (s.toScanline n).scanline = BitVec.ofNat 9 n := rfl
@[simp] theorem State.toScanline_frameCount (n : Nat) : (s.toScanline n).frameCount = s.frameCount := rfl
@[simp] theorem State.toScanline_nmiFlag (n : Nat) : (s.toScanline n).nmiFlag = s.nmiFlag := rfl
@[simp] theorem State.toScanline_nmiEnable (n : Nat) : (s.toScanline n).nmiEnable = s.nmiEnable := rfl
@[simp] theorem State.toScanline_layer0 (n : Nat) : (s.toScanline n).layer0 = s.layer0 := rfl
@[simp] theorem State.toScanline_layer1 (n : Nat) : (s.toScanline n).layer1 = s.layer1 := rfl
@[simp] theorem State.toScanline_layer2 (n : Nat) : (s.toScanline n).layer2 = s.layer2 := rfl
@[simp] theorem State.toScanline_layer3 (n : Nat) : (s.toScanline n).layer3 = s.layer3 := rfl
@[simp] theorem State.toScanline_vramAddress (n : Nat) : (s.toScanline n).vramAddress = s.vramAddress := rfl
@[simp] theorem State.toScanline_vramIncrement (n : Nat) : (s.toScanline n).vramIncrement = s.vramIncrement := rfl
@[simp] theorem State.toScanline_vramRemapMode (n : Nat) : (s.toScanline n).vramRemapMode = s.vramRemapMode := rfl
@[simp] theorem State.toScanline_incrementOnHighByteWrite (n : Nat) : (s.toScanline n).incrementOnHighByteWrite = s.incrementOnHighByteWrite := rfl
@[simp] theorem State.toScanline_cgramAddress (n : Nat) : (s.toScanline n).cgramAddress = s.cgramAddress := rfl
@[simp] theorem State.toScanline_vram (n : Nat) : (s.toScanline n).vram = s.vram := rfl
@[simp] theorem State.toScanline_oam (n : Nat) : (s.toScanline n).oam = s.oam := rfl
@[simp] theorem State.toScanline_cgram (n : Nat) : (s.toScanline n).cgram = s.cgram := rfl
@[simp] theorem State.toScanline_fb0 (n : Nat) : (s.toScanline n).fb0 = s.fb0 := rfl
@[simp] theorem State.toScanline_fb1 (n : Nat) : (s.toScanline n).fb1 = s.fb1 := rfl
@[simp] theorem State.toScanline_active (n : Nat) : (s.toScanline n).active = s.active := rfl
@[simp] theorem State.toScanline_voBuf (n : Nat) : (s.toScanline n).voBuf = s.voBuf := rfl
@[simp] theorem State.toScanline_voFrame (n : Nat) : (s.toScanline n).voFrame = s.voFrame := rfl
@[simp] theorem State.toScanline_handedOver (n : Nat) : (s.toScanline n).handedOver = s.handedOver := rfl
@[simp] theorem State.toScanline_out (n : Nat) : (s.toScanline n).out = s.out := rfl
@[simp] theorem State.toScanline_draws (n : Nat) : (s.toScanline n).draws = s.draws := rfl
@[simp] theorem State.toScanline_inputs (n : Nat) : (s.toScanline n).inputs = s.inputs := rfl

/-! ### wrapFrame -/

@[simp] theorem State.wrapFrame_cycle : (s.wrapFrame).cycle = s.cycle := rfl
@[simp] theorem State.wrapFrame_scanline : (s.wrapFrame).scanline = 0#9 := rfl
@[simp] theorem State.wrapFrame_frameCount : (s.wrapFrame).frameCount = s.frameCount + 1#32 := rfl
@[simp] theorem State.wrapFrame_nmiFlag : (s.wrapFrame).nmiFlag = false := rfl
@[simp] theorem State.wrapFrame_nmiEnable : (s.wrapFrame).nmiEnable = s.nmiEnable := rfl
@[simp] theorem State.wrapFrame_layer0 : (s.wrapFrame).layer0 = s.layer0 := rfl
@[simp] theorem State.wrapFrame_layer1 : (s.wrapFrame).layer1 = s.layer1 := rfl
@[simp] theorem State.wrapFrame_layer2 : (s.wrapFrame).layer2 = s.layer2 := rfl
@[simp] theorem State.wrapFrame_layer3 : (s.wrapFrame).layer3 = s.layer3 := rfl
@[simp] theorem State.wrapFrame_vramAddress : (s.wrapFrame).vramAddress = s.vramAddress := rfl
@[simp] theorem State.wrapFrame_vramIncrement : (s.wrapFrame).vramIncrement = s.vramIncrement := rfl
@[simp] theorem State.wrapFrame_vramRemapMode : (s.wrapFrame).vramRemapMode = s.vramRemapMode := rfl
@[simp] theorem State.wrapFrame_incrementOnHighByteWrite : (s.wrapFrame).incrementOnHighByteWrite = s.incrementOnHighByteWrite := rfl
@[simp] theorem State.wrapFrame_cgramAddress : (s.wrapFrame).cgramAddress = s.cgramAddress := rfl
@[simp] theorem State.wrapFrame_vram : (s.wrapFrame).vram = s.vram := rfl
@[simp] theorem State.wrapFrame_oam : (s.wrapFrame).oam = s.oam := rfl
@[simp] theorem State.wrapFrame_cgram : (s.wrapFrame).cgram = s.cgram := rfl
@[simp] theorem State.wrapFrame_fb0 : (s.wrapFrame).fb0 = s.fb0 := rfl
@[simp] theorem State.wrapFrame_fb1 : (s.wrapFrame).fb1 = s.fb1 := rfl
@[simp] theorem State.wrapFrame_active : (s.wrapFrame).active = s.active := rfl
@[simp] theorem State.wrapFrame_voBuf : (s.wrapFrame).voBuf = s.voBuf := rfl
@[simp] theorem State.wrapFrame_voFrame : (s.wrapFrame).voFrame = s.voFrame := rfl
@[simp] theorem State.wrapFrame_handedOver : (s.wrapFrame).handedOver = s.handedOver := rfl
@[simp] theorem State.wrapFrame_out : (s.wrapFrame).out = s.out := rfl
@[simp] theorem State.wrapFrame_draws : (s.wrapFrame).draws = s.draws := rfl
@[simp] theorem State.wrapFrame_inputs : (s.wrapFrame).inputs = s.inputs := rfl

/-! ### nextCycle -/

@[simp] theorem State.nextCycle_cycle : (s.nextCycle).cycle = s.cycle + 1#9 := rfl
@[simp] theorem State.nextCycle_scanline : (s.nextCycle).scanline = s.scanline := rfl
@[simp] theorem State.nextCycle_frameCount : (s.nextCycle).frameCount = s.frameCount := rfl
@[simp] theorem State.nextCycle_nmiFlag : (s.nextCycle).nmiFlag = s.nmiFlag := rfl
@[simp] theorem State.nextCycle_nmiEnable : (s.nextCycle).nmiEnable = s.nmiEnable := rfl
@[simp] theorem State.nextCycle_layer0 : (s.nextCycle).layer0 = s.layer0 := rfl
@[simp] theorem State.nextCycle_layer1 : (s.nextCycle).layer1 = s.layer1 := rfl
@[simp] theorem State.nextCycle_layer2 : (s.nextCycle).layer2 = s.layer2 := rfl
@[simp] theorem State.nextCycle_layer3 : (s.nextCycle).layer3 = s.layer3 := rfl
@[simp] theorem State.nextCycle_vramAddress : (s.nextCycle).vramAddress = s.vramAddress := rfl
@[simp] theorem State.nextCycle_vramIncrement : (s.nextCycle).vramIncrement = s.vramIncrement := rfl
@[simp] theorem State.nextCycle_vramRemapMode : (s.nextCycle).vramRemapMode = s.vramRemapMode := rfl
@[simp] theorem State.nextCycle_incrementOnHighByteWrite : (s.nextCycle).incrementOnHighByteWrite = s.incrementOnHighByteWrite := rfl
@[simp] theorem State.nextCycle_cgramAddress : (s.nextCycle).cgramAddress = s.cgramAddress := rfl
@[simp] theorem State.nextCycle_vram : (s.nextCycle).vram = s.vram := rfl
@[simp] theorem State.nextCycle_oam : (s.nextCycle).oam = s.oam := rfl
@[simp] theorem State.nextCycle_cgram : (s.nextCycle).cgram = s.cgram := rfl
@[simp] theorem State.nextCycle_fb0 : (s.nextCycle).fb0 = s.fb0 := rfl
@[simp] theorem State.nextCycle_fb1 : (s.nextCycle).fb1 = s.fb1 := rfl
@[simp] theorem State.nextCycle_active : (s.nextCycle).active = s.active := rfl
@[simp] theorem State.nextCycle_voBuf : (s.nextCycle).voBuf = s.voBuf := rfl
@[simp] theorem State.nextCycle_voFrame : (s.nextCycle).voFrame = s.voFrame := rfl
@[simp] theorem State.nextCycle_handedOver : (s.nextCycle).handedOver = s.handedOver := rfl
@[simp] theorem State.nextCycle_out : (s.nextCycle).out = s.out := rfl
@[simp] theorem State.nextCycle_draws : (s.nextCycle).draws = s.draws := rfl
@[simp] theorem State.nextCycle_inputs : (s.nextCycle).inputs = s.inputs := rfl

/-! ### setFb -/

@[simp] theorem State.setFb_cycle (b : BufferIndex) (m : FrameMemory) : (s.setFb b m).cycle = s.cycle := by
  unfold State.setFb; split <;> rfl
@[simp] theorem State.setFb_scanline (b : BufferIndex) (m : FrameMemory) : (s.setFb b m).scanline = s.scanline := by
  unfold State.setFb; split <;> rfl
@[simp] theorem State.setFb_frameCount (b : BufferIndex) (m : FrameMemory) : (s.setFb b m).frameCount = s.frameCount := by
  unfold State.setFb; split <;> rfl
@[simp] theorem State.setFb_nmiFlag (b : BufferIndex) (m : FrameMemory) : (s.setFb b m).nmiFlag = s.nmiFlag := by
  unfold State.setFb; split <;> rfl
@[simp] theorem State.setFb_nmiEnable (b : BufferIndex) (m : FrameMemory) : (s.setFb b m).nmiEnable = s.nmiEnable := by
  unfold State.setFb; split <;> rfl
@[simp] theorem State.setFb_layer0 (b : BufferIndex) (m : FrameMemory) : (s.setFb b m).layer0 = s.layer0 := by
  unfold State.setFb; split <;> rfl
@[simp] theorem State.setFb_layer1 (b : BufferIndex) (m : FrameMemory) : (s.setFb b m).layer1 = s.layer1 := by
  unfold State.setFb; split <;> rfl
@[simp] theorem State.setFb_layer2 (b : BufferIndex) (m : FrameMemory) : (s.setFb b m).layer2 = s.layer2 := by
  unfold State.setFb; split <;> rfl
@[simp] theorem State.setFb_layer3 (b : BufferIndex) (m : FrameMemory) : (s.setFb b m).layer3 = s.layer3 := by
  unfold State.setFb; split <;> rfl
@[simp] theorem State.setFb_vramAddress (b : BufferIndex) (m : FrameMemory) : (s.setFb b m).vramAddress = s.vramAddress := by
  unfold State.setFb; split <;> rfl
@[simp] theorem State.setFb_vramIncrement (b : BufferIndex) (m : FrameMemory) : (s.setFb b m).vramIncrement = s.vramIncrement := by
  unfold State.setFb; split <;> rfl
@[simp] theorem State.setFb_vramRemapMode (b : BufferIndex) (m : FrameMemory) : (s.setFb b m).vramRemapMode = s.vramRemapMode := by
  unfold State.setFb; split <;> rfl
@[simp] theorem State.setFb_incrementOnHighByteWrite (b : BufferIndex) (m : FrameMemory) : (s.setFb b m).incrementOnHighByteWrite = s.incrementOnHighByteWrite := by
  unfold State.setFb; split <;> rfl
@[simp] theorem State.setFb_cgramAddress (b : BufferIndex) (m : FrameMemory) : (s.setFb b m).cgramAddress = s.cgramAddress := by
  unfold State.setFb; split <;> rfl
@[simp] theorem State.setFb_vram (b : BufferIndex) (m : FrameMemory) : (s.setFb b m).vram = s.vram := by
  unfold State.setFb; split <;> rfl
@[simp] theorem State.setFb_oam (b : BufferIndex) (m : FrameMemory) : (s.setFb b m).oam = s.oam := by
  unfold State.setFb; split <;> rfl
@[simp] theorem State.setFb_cgram (b : BufferIndex) (m : FrameMemory) : (s.setFb b m).cgram = s.cgram := by
  unfold State.setFb; split <;> rfl
@[simp] theorem State.setFb_fb0 (b : BufferIndex) (m : FrameMemory) : (s.setFb b m).fb0 = if b = 0#1 then m else s.fb0 := by
  unfold State.setFb; split <;> rfl
@[simp] theorem State.setFb_fb1 (b : BufferIndex) (m : FrameMemory) : (s.setFb b m).fb1 = if b = 0#1 then s.fb1 else m := by
  unfold State.setFb; split <;> rfl
@[simp] theorem State.setFb_active (b : BufferIndex) (m : FrameMemory) : (s.setFb b m).active = s.active := by
  unfold State.setFb; split <;> rfl
@[simp] theorem State.setFb_voBuf (b : BufferIndex) (m : FrameMemory) : (s.setFb b m).voBuf = s.voBuf := by
  unfold State.setFb; split <;> rfl
@[simp] theorem State.setFb_voFrame (b : BufferIndex) (m : FrameMemory) : (s.setFb b m).voFrame = s.voFrame := by
  unfold State.setFb; split <;> rfl
@[simp] theorem State.setFb_handedOver (b : BufferIndex) (m : FrameMemory) : (s.setFb b m).handedOver = s.handedOver := by
  unfold State.setFb; split <;> rfl
@[simp] theorem State.setFb_out (b : BufferIndex) (m : FrameMemory) : (s.setFb b m).out = s.out := by
  unfold State.setFb; split <;> rfl
@[simp] theorem State.setFb_draws (b : BufferIndex) (m : FrameMemory) : (s.setFb b m).draws = s.draws := by
  unfold State.setFb; split <;> rfl
@[simp] theorem State.setFb_inputs (b : BufferIndex) (m : FrameMemory) : (s.setFb b m).inputs = s.inputs := by
  unfold State.setFb; split <;> rfl

/-! ### interruptDispatch -/

@[simp] theorem State.interruptDispatch_cycle : (s.interruptDispatch).cycle = s.cycle := by
  unfold State.interruptDispatch; split <;> rfl
@[simp] theorem State.interruptDispatch_scanline : (s.interruptDispatch).scanline = s.scanline := by
  unfold State.interruptDispatch; split <;> rfl
@[simp] theorem State.interruptDispatch_frameCount : (s.interruptDispatch).frameCount = s.frameCount := by
  unfold State.interruptDispatch; split <;> rfl
@[simp] theorem State.interruptDispatch_nmiFlag : (s.interruptDispatch).nmiFlag = s.nmiFlag := by
  unfold State.interruptDispatch; split <;> rfl
@[simp] theorem State.interruptDispatch_nmiEnable : (s.interruptDispatch).nmiEnable = s.nmiEnable := by
  unfold State.interruptDispatch; split <;> rfl
@[simp] theorem State.interruptDispatch_layer0 : (s.interruptDispatch).layer0 = s.layer0 := by
  unfold State.interruptDispatch; split <;> rfl
@[simp] theorem State.interruptDispatch_layer1 : (s.interruptDispatch).layer1 = s.layer1 := by
  unfold State.interruptDispatch; split <;> rfl
@[simp] theorem State.interruptDispatch_layer2 : (s.interruptDispatch).layer2 = s.layer2 := by
  unfold State.interruptDispatch; split <;> rfl
@[simp] theorem State.interruptDispatch_layer3 : (s.interruptDispatch).layer3 = s.layer3 := by
  unfold State.interruptDispatch; split <;> rfl
@[simp] theorem State.interruptDispatch_vramAddress : (s.interruptDispatch).vramAddress = s.vramAddress := by
  unfold State.interruptDispatch; split <;> rfl
@[simp] theorem State.interruptDispatch_vramIncrement : (s.interruptDispatch).vramIncrement = s.vramIncrement := by
  unfold State.interruptDispatch; split <;> rfl
@[simp] theorem State.interruptDispatch_vramRemapMode : (s.interruptDispatch).vramRemapMode = s.vramRemapMode := by
  unfold State.interruptDispatch; split <;> rfl
@[simp] theorem State.interruptDispatch_incrementOnHighByteWrite : (s.interruptDispatch).incrementOnHighByteWrite = s.incrementOnHighByteWrite := by
  unfold State.interruptDispatch; split <;> rfl
@[simp] theorem State.interruptDispatch_cgramAddress : (s.interruptDispatch).cgramAddress = s.cgramAddress := by
  unfold State.interruptDispatch; split <;> rfl
@[simp] theorem State.interruptDispatch_vram : (s.interruptDispatch).vram = s.vram := by
  unfold State.interruptDispatch; split <;> rfl
@[simp] theorem State.interruptDispatch_oam : (s.interruptDispatch).oam = s.oam := by
  unfold State.interruptDispatch; split <;> rfl
@[simp] theorem State.interruptDispatch_cgram : (s.interruptDispatch).cgram = s.cgram := by
  unfold State.interruptDispatch; split <;> rfl
@[simp] theorem State.interruptDispatch_fb0 : (s.interruptDispatch).fb0 = s.fb0 := by
  unfold State.interruptDispatch; split <;> rfl
@[simp] theorem State.interruptDispatch_fb1 : (s.interruptDispatch).fb1 = s.fb1 := by
  unfold State.interruptDispatch; split <;> rfl
@[simp] theorem State.interruptDispatch_active : (s.interruptDispatch).active = s.active := by
  unfold State.interruptDispatch; split <;> rfl
@[simp] theorem State.interruptDispatch_voBuf : (s.interruptDispatch).voBuf = s.voBuf := by
  unfold State.interruptDispatch; split <;> rfl
@[simp] theorem State.interruptDispatch_voFrame : (s.interruptDispatch).voFrame = s.voFrame := by
  unfold State.interruptDispatch; split <;> rfl
@[simp] theorem State.interruptDispatch_handedOver : (s.interruptDispatch).handedOver = s.handedOver := by
  unfold State.interruptDispatch; split <;> rfl
@[simp] theorem State.interruptDispatch_out : (s.interruptDispatch).out = if s.nmiEnable then ⟨s.out.events ++ [.nmi], s.out.readData⟩ else s.out := by
  unfold State.interruptDispatch; split <;> rfl
@[simp] theorem State.interruptDispatch_draws : (s.interruptDispatch).draws = s.draws := by
  unfold State.interruptDispatch; split <;> rfl
@[simp] theorem State.interruptDispatch_inputs : (s.interruptDispatch).inputs = s.inputs := by
  unfold State.interruptDispatch; split <;> rfl

end Sys2Proof.Machine
end

