-- ==== Sys2Proof/Laws/Ops.lean ====
section
/-! SUPPORT. One lemma for each shared operation that says what it does to a read of memory. -/

namespace Sys2Proof.Machine

theorem State.vramRead_congr {s t : State} (hv : t.vram = s.vram) (hd : t.draws = s.draws) (a : Nat) :
    t.vramRead a = s.vramRead a := by
  unfold State.vramRead; rw [hv, hd]

theorem State.cgRead_congr {s t : State} (hv : t.cgram = s.cgram) (hd : t.draws = s.draws) (a : Nat) :
    t.cgRead a = s.cgRead a := by
  unfold State.cgRead; rw [hv, hd]

theorem State.cgRead16_congr {s t : State} (hv : t.cgram = s.cgram) (hd : t.draws = s.draws) (a : Nat) :
    t.cgRead16 a = s.cgRead16 a := by
  unfold State.cgRead16; rw [State.cgRead_congr hv hd, State.cgRead_congr hv hd]

theorem State.oamRead_congr {s t : State} (hv : t.oam = s.oam) (hd : t.draws = s.draws) (a : Nat) :
    t.oamRead a = s.oamRead a := by
  unfold State.oamRead; rw [hv, hd]

theorem State.fbRead_congr {s t : State} {b : BufferIndex} (hv : t.fb b = s.fb b) (hd : t.draws = s.draws)
    (x y : Nat) : t.fbRead b x y = s.fbRead b x y := by
  unfold State.fbRead; rw [hv, hd]

/-- Reading VRAM after a write: the written byte at the written place, every other byte as before. -/
theorem State.vramRead_vramWrite (s : State) (a a' : Nat) (v : Byte) :
    (s.vramWrite a v).vramRead a' = if a' % 65536 = a % 65536 then v else s.vramRead a' := by
  unfold State.vramRead
  simp only [State.vramWrite_vram, State.vramWrite_draws, cfg_vramSize, Bank.lookup_store]
  split <;> rfl

/-- Reading CGRAM after a write. -/
theorem State.cgRead_cgWrite (s : State) (a a' : Nat) (v : Byte) :
    (s.cgWrite a v).cgRead a' = if a' % 512 = a % 512 then v else s.cgRead a' := by
  unfold State.cgRead
  simp only [State.cgWrite_cgram, State.cgWrite_draws, cfg_cgramSize, Bank.lookup_store]
  split <;> rfl

/-- A VRAM write keeps the canonical form. -/
theorem State.vramWrite_wf {s : State} (a : Nat) (v : Byte) (h : Memory.wf 65536 s.vram = true) :
    Memory.wf 65536 (s.vramWrite a v).vram = true :=
  Memory.wf_store v h (Nat.mod_lt _ (by decide))

/-- A CGRAM write keeps the canonical form. -/
theorem State.cgWrite_wf {s : State} (a : Nat) (v : Byte) (h : Memory.wf 512 s.cgram = true) :
    Memory.wf 512 (s.cgWrite a v).cgram = true :=
  Memory.wf_store v h (Nat.mod_lt _ (by decide))

theorem bufferIndex_cases (b : BufferIndex) : b = 0#1 ∨ b = 1#1 := by
  revert b; decide

theorem State.fb_setFb_same (s : State) (b : BufferIndex) (m : FrameMemory) : (s.setFb b m).fb b = m := by
  rcases bufferIndex_cases b with rfl | rfl <;> rfl

theorem State.fb_setFb_other (s : State) {b b' : BufferIndex} (m : FrameMemory) (h : b' ≠ b) :
    (s.setFb b m).fb b' = s.fb b' := by
  rcases bufferIndex_cases b with rfl | rfl <;> rcases bufferIndex_cases b' with rfl | rfl <;>
    first | rfl | exact absurd rfl h

theorem pixelIndex_inj {x y x' y' : Nat} (hx : x < 256) (hx' : x' < 256)
    (h : pixelIndex x y = pixelIndex x' y') : x = x' ∧ y = y' := by
  unfold pixelIndex at h
  simp only [cfg_fbW] at h
  omega

/-- Reading a pixel after a frame-buffer write (20_memory R55). -/
theorem State.fbRead_fbWrite (s : State) (b : BufferIndex) {x y x' y' : Nat} (c : Pixel) (hx : x < 256)
    (hx' : x' < 256) :
    (s.fbWrite b x y c).fbRead b x' y' = if x' = x ∧ y' = y then c else s.fbRead b x' y' := by
  unfold State.fbWrite State.fbRead
  rw [State.fb_setFb_same, State.setFb_draws, Bank.lookup_store]
  by_cases h : pixelIndex x' y' = pixelIndex x y
  · obtain ⟨rfl, rfl⟩ := pixelIndex_inj hx' hx h
    simp
  · have hn : ¬(x' = x ∧ y' = y) := fun ⟨hx, hy⟩ => h (by rw [hx, hy])
    rw [if_neg h, if_neg hn]

end Sys2Proof.Machine
end

