-- ==== Sys2Proof/Laws/Render.lean ====
section
/-! SUPPORT. What RenderFrame and FrameDispatch do, said once. -/

namespace Sys2Proof.Machine

/-- The colour of a pixel depends on VRAM, CGRAM and `layer[0]` only (43_render_pipeline R191). -/
theorem State.pixelAt_congr {s t : State} (hv : ∀ a, t.vramRead a = s.vramRead a)
    (hc : ∀ a, t.cgRead a = s.cgRead a)
    (ht : t.layer0.tilemapAddress = s.layer0.tilemapAddress)
    (hk : t.layer0.chrAddress = s.layer0.chrAddress) (x y : Nat) : t.pixelAt x y = s.pixelAt x y := by
  simp only [State.pixelAt, State.cgRead16, hv, hc, ht, hk]

/-- A rendered frame is in canonical form. -/
theorem State.renderedFrame_wf (s : State) : Bank.wf 57344 s.renderedFrame = true :=
  Bank.wf_map_range _ _

/-- Every place of a rendered frame holds its pixel. -/
theorem State.renderedFrame_lookup (s : State) {x y : Nat} (hx : x < 256) (hy : y < 224) :
    Bank.lookup s.renderedFrame (pixelIndex x y) = some (s.pixelAt x y) := by
  unfold State.renderedFrame
  rw [Bank.lookup_map_range]
  simp only [cfg_fbPixels, cfg_fbW, pixelIndex]
  have h1 : (y * 256 + x) % 256 = x := by omega
  have h2 : (y * 256 + x) / 256 = y := by omega
  have h3 : y * 256 + x < 57344 := by omega
  simp only [h1, h2, h3, if_true]

/-- After RenderFrame the active buffer holds the picture. -/
theorem State.renderFrame_fbRead_active (s : State) {x y : Nat} (hx : x < 256) (hy : y < 224) :
    s.renderFrame.fbRead s.active x y = s.pixelAt x y := by
  unfold State.renderFrame State.fbRead
  rw [State.fb_setFb_same, State.renderedFrame_lookup s hx hy]
  rfl

/-- RenderFrame does not touch the other buffer (R188). -/
theorem State.renderFrame_fb_other (s : State) {b : BufferIndex} (h : b ≠ s.active) :
    s.renderFrame.fb b = s.fb b :=
  State.fb_setFb_other s _ h

/-- FrameDispatch, whole: the state it leaves (44_frame_dispatch R200). -/
theorem State.frameDispatch_eq (s : State) :
    s.frameDispatch =
      { s.renderFrame with
        active := 1#1 - s.active
        voBuf := s.active
        voFrame := s.frameCount
        handedOver := true
        out := ⟨s.out.events ++ [.frameReady, .frameHandoff s.active s.frameCount], s.out.readData⟩ } := by
  unfold State.frameDispatch State.handOver State.swapBuffers State.emit State.renderFrame
  unfold State.setFb
  split <;> simp

end Sys2Proof.Machine
end

