-- ==== Sys2Proof/Laws/Timing.lean ====
section
/-! SUPPORT. What a TICK can do, said once: four cases. -/

namespace Sys2Proof.Machine

/-- The TICK stays in the scanline (40_timing_controller R121). -/
theorem State.advance_within (s : State) (h : s.cycle.toNat ≠ 340) : s.advance = s.quiet.nextCycle := by
  unfold State.advance
  rw [cfg_cycleMax, if_neg h]

/-- The TICK ends a scanline and meets no threshold (R122). -/
theorem State.advance_line (s : State) (h : s.cycle.toNat = 340) (h1 : s.scanline.toNat ≠ 224)
    (h2 : s.scanline.toNat ≠ 259) : s.advance = s.quiet.startLine.toScanline (s.scanline.toNat + 1) := by
  unfold State.advance
  rw [cfg_cycleMax, if_pos h]
  have hv : ¬s.quiet.scanline.toNat + 1 = cfg.vblankLine := by
    rw [cfg_vblankLine, State.quiet_scanline]; omega
  have hl : ¬s.quiet.scanline.toNat + 1 = cfg.lines := by
    rw [cfg_lines, State.quiet_scanline]; omega
  simp only [State.endLine, if_neg hv, if_neg hl]
  rw [State.quiet_scanline]

/-- The TICK starts vblank (R123). -/
theorem State.advance_vblank (s : State) (h : s.cycle.toNat = 340) (h1 : s.scanline.toNat = 224) :
    s.advance = s.quiet.startLine.enterVblank.toScanline 225 := by
  unfold State.advance
  rw [cfg_cycleMax, if_pos h]
  have hv : s.quiet.scanline.toNat + 1 = cfg.vblankLine := by
    rw [cfg_vblankLine, State.quiet_scanline]; omega
  have hl : ¬s.quiet.scanline.toNat + 1 = cfg.lines := by
    rw [cfg_lines, State.quiet_scanline]; omega
  simp only [State.endLine, if_pos hv, if_neg hl]
  rw [State.quiet_scanline, h1]

/-- The TICK wraps the frame (R124). -/
theorem State.advance_wrap (s : State) (h : s.cycle.toNat = 340) (h1 : s.scanline.toNat = 259) :
    s.advance = s.quiet.startLine.wrapFrame := by
  unfold State.advance
  rw [cfg_cycleMax, if_pos h]
  have hv : ¬s.quiet.scanline.toNat + 1 = cfg.vblankLine := by
    rw [cfg_vblankLine, State.quiet_scanline]; omega
  have hl : s.quiet.scanline.toNat + 1 = cfg.lines := by
    rw [cfg_lines, State.quiet_scanline]; omega
  simp only [State.endLine, if_neg hv, if_pos hl]

/-- The start of vblank, whole: the rendered buffer, the flag, the swap, the handoff, the events (R123,
44_frame_dispatch R200, R205). -/
theorem State.enterVblank_eq (s : State) :
    s.enterVblank =
      { s.setFb s.active s.renderedFrame with
        nmiFlag := true
        active := 1#1 - s.active
        voBuf := s.active
        voFrame := s.frameCount
        handedOver := true
        out :=
          ⟨s.out.events ++ [.frameReady, .frameHandoff s.active s.frameCount] ++
            (if s.nmiEnable then [.nmi] else []), s.out.readData⟩ } := by
  unfold State.enterVblank
  rw [State.frameDispatch_eq]
  have hr : State.renderedFrame { s with nmiFlag := true } = s.renderedFrame := rfl
  unfold State.renderFrame
  rw [hr]
  generalize s.renderedFrame = m
  unfold State.interruptDispatch State.emit State.setFb
  cases s.nmiEnable <;> by_cases hb : s.active = 0#1 <;> simp [hb]

end Sys2Proof.Machine
end

