-- ==== Sys2Proof/Laws/Exec.lean ====
section
/-! SUPPORT. What an operation can do, said once: a READ or a WRITE leaves the raster, the interrupt flag and the
frame buffers alone; a TICK has two shapes, at the start of vblank and elsewhere. -/

namespace Sys2Proof.Machine

/-- The fields a READ or a WRITE never changes (41_register_writes R140, 42_register_reads R170), and its events. -/
structure State.SameFrameSide (s t : State) : Prop where
  cycle : t.cycle = s.cycle
  scanline : t.scanline = s.scanline
  frameCount : t.frameCount = s.frameCount
  nmiFlag : t.nmiFlag = s.nmiFlag
  oam : t.oam = s.oam
  fb0 : t.fb0 = s.fb0
  fb1 : t.fb1 = s.fb1
  active : t.active = s.active
  voBuf : t.voBuf = s.voBuf
  voFrame : t.voFrame = s.voFrame
  handedOver : t.handedOver = s.handedOver
  draws : t.draws = s.draws
  inputs : t.inputs = s.inputs
  events : t.out.events = []

/-- A READ or a WRITE of any address (R140, R170). -/
theorem exec_sameFrameSide {i : Instr} {s t : State} (hi : i ≠ .tick) (hr : i ≠ .reset)
    (h : exec i s = .next t) : s.SameFrameSide t := by
  cases i
  case tick => exact absurd rfl hi
  case reset => exact absurd rfl hr
  all_goals (cases h; constructor <;> simp)

theorem exec_tick_eq {s t : State} (h : exec .tick s = .next t) : t = s.advance := by
  cases h; rfl

theorem State.atVblankEdge_iff (s : State) :
    s.atVblankEdge = true ↔ s.cycle.toNat = 340 ∧ s.scanline.toNat = 224 := by
  simp [State.atVblankEdge]

theorem State.atFrameWrap_iff (s : State) :
    s.atFrameWrap = true ↔ s.cycle.toNat = 340 ∧ s.scanline.toNat = 259 := by
  simp [State.atFrameWrap]

/-- A TICK that does not start vblank changes the raster and, at the frame wrap, the flag (40_timing_controller R121,
R122, R124). -/
theorem State.advance_away (s : State) (h : ¬s.atVblankEdge = true) :
    s.advance =
      { s with
        cycle := s.advance.cycle
        scanline := s.advance.scanline
        frameCount := s.advance.frameCount
        nmiFlag := if s.atFrameWrap = true then false else s.nmiFlag
        out := ⟨[], none⟩ } := by
  rw [State.atVblankEdge_iff] at h
  by_cases hc : s.cycle.toNat = 340
  · have h1 : s.scanline.toNat ≠ 224 := fun h1 => h ⟨hc, h1⟩
    by_cases h2 : s.scanline.toNat = 259
    · rw [if_pos ((State.atFrameWrap_iff s).2 ⟨hc, h2⟩), State.advance_wrap s hc h2]; rfl
    · rw [if_neg (fun h => h2 ((State.atFrameWrap_iff s).1 h).2), State.advance_line s hc h1 h2]; rfl
  · rw [if_neg (fun h => hc ((State.atFrameWrap_iff s).1 h).1), State.advance_within s hc]; rfl

/-- The TICK that starts vblank, whole (R123, 44_frame_dispatch R200, R205). -/
theorem State.advance_edge (s : State) (h : s.atVblankEdge = true) :
    s.advance =
      { s.setFb s.active s.renderedFrame with
        cycle := 0#9
        scanline := 225#9
        nmiFlag := true
        active := 1#1 - s.active
        voBuf := s.active
        voFrame := s.frameCount
        handedOver := true
        out :=
          ⟨[.frameReady, .frameHandoff s.active s.frameCount] ++ (if s.nmiEnable then [.nmi] else []), none⟩ } := by
  rw [State.atVblankEdge_iff] at h
  rw [State.advance_vblank s h.1 h.2, State.enterVblank_eq]
  have : s.quiet.startLine.renderedFrame = s.renderedFrame := rfl
  rw [this]
  rcases bufferIndex_cases s.active with hb | hb <;> simp [hb, State.toScanline, State.setFb] <;> rfl

/-- `cycle` after a TICK (R121, R122). -/
theorem State.advance_cycle (s : State) :
    s.advance.cycle = if s.cycle.toNat = 340 then 0#9 else s.cycle + 1#9 := by
  by_cases h : s.cycle.toNat = 340
  · rw [if_pos h]
    by_cases h1 : s.scanline.toNat = 224
    · rw [State.advance_vblank s h h1, State.toScanline_cycle, State.enterVblank_eq]; simp
    · by_cases h2 : s.scanline.toNat = 259
      · rw [State.advance_wrap s h h2]; simp
      · rw [State.advance_line s h h1 h2]; simp
  · rw [if_neg h, State.advance_within s h]; simp

/-- `scanline` after a TICK (R122, R124). -/
theorem State.advance_scanline (s : State) :
    s.advance.scanline.toNat =
      if s.cycle.toNat = 340 then (if s.scanline.toNat = 259 then 0 else (s.scanline.toNat + 1) % 512)
      else s.scanline.toNat := by
  by_cases h : s.cycle.toNat = 340
  · rw [if_pos h]
    by_cases h1 : s.scanline.toNat = 224
    · rw [State.advance_vblank s h h1]; simp [h1]
    · by_cases h2 : s.scanline.toNat = 259
      · rw [State.advance_wrap s h h2]; simp [h2]
      · rw [State.advance_line s h h1 h2]; simp [h2]
  · rw [if_neg h, State.advance_within s h]; simp

/-- `frameCount` after a TICK (R124). -/
theorem State.advance_frameCount (s : State) :
    s.advance.frameCount =
      if s.cycle.toNat = 340 ∧ s.scanline.toNat = 259 then s.frameCount + 1#32 else s.frameCount := by
  by_cases h : s.cycle.toNat = 340
  · by_cases h1 : s.scanline.toNat = 224
    · rw [State.advance_vblank s h h1, State.toScanline_frameCount, State.enterVblank_eq]; simp [h1]
    · by_cases h2 : s.scanline.toNat = 259
      · rw [State.advance_wrap s h h2]; simp [h, h2]
      · rw [State.advance_line s h h1 h2]; simp [h2]
  · rw [State.advance_within s h]; simp [h]

end Sys2Proof.Machine
end

