-- ==== Sys2Proof/Laws/PerInstr.lean ====
section
/-! SUPPORT. A law of every operation as syntax, one lemma per constructor. -/

namespace Sys2Proof.Laws.EncodedKind

/-- The kind field of an operation's command word is the operation's kind (30_encoding R82). -/
def Statement (i : Instr) : Prop := wordKind (encode i) = i.kind

theorem tilemap0 (v : Byte) : Statement (.tilemap0 v) := wordKind_packWord ..
theorem tilemap1 (v : Byte) : Statement (.tilemap1 v) := wordKind_packWord ..
theorem tilemap2 (v : Byte) : Statement (.tilemap2 v) := wordKind_packWord ..
theorem tilemap3 (v : Byte) : Statement (.tilemap3 v) := wordKind_packWord ..
theorem chrbase01 (v : Byte) : Statement (.chrbase01 v) := wordKind_packWord ..
theorem chrbase23 (v : Byte) : Statement (.chrbase23 v) := wordKind_packWord ..
theorem vportctrl (v : Byte) : Statement (.vportctrl v) := wordKind_packWord ..
theorem vaddrl (v : Byte) : Statement (.vaddrl v) := wordKind_packWord ..
theorem vaddrh (v : Byte) : Statement (.vaddrh v) := wordKind_packWord ..
theorem vdatal (v : Byte) : Statement (.vdatal v) := wordKind_packWord ..
theorem vdatah (v : Byte) : Statement (.vdatah v) := wordKind_packWord ..
theorem cgaddr (v : Byte) : Statement (.cgaddr v) := wordKind_packWord ..
theorem cgdata (v : Byte) : Statement (.cgdata v) := wordKind_packWord ..
theorem nmien (v : Byte) : Statement (.nmien v) := wordKind_packWord ..
theorem nmistat : Statement .nmistat := wordKind_packWord ..
theorem hvstat : Statement .hvstat := wordKind_packWord ..
theorem writeOther (a : BusAddr) (v : Byte) : Statement (.writeOther a v) := wordKind_packWord ..
theorem readOther (a : BusAddr) : Statement (.readOther a) := wordKind_packWord ..
theorem tick : Statement .tick := wordKind_packWord ..
theorem reset : Statement .reset := wordKind_packWord ..

end Sys2Proof.Laws.EncodedKind
end

