-- ==== Sys2Proof/Laws/Run.lean ====
section
/-! SUPPORT. Runs of TICKs from one frame event to the next. -/

namespace Sys2Proof.Machine

/-- How many TICKs a state is past the first position of scanline 225 (40_timing_controller R128). -/
def State.sinceVblank (s : State) : Nat := (s.scanline.toNat + 35) % 260 * 341 + s.cycle.toNat

/-- A TICK moves on by one and, before the last position, sends nothing (R120 to R125). -/
theorem State.advance_sinceVblank {s : State} (hc : s.cycle.toNat ≤ 340) (hs : s.scanline.toNat < 260)
    (h : s.sinceVblank < 88659) :
    s.advance.sinceVblank = s.sinceVblank + 1 ∧ s.advance.cycle.toNat ≤ 340 ∧ s.advance.scanline.toNat < 260 ∧
      s.advance.out.events = [] := by
  have he : ¬s.atVblankEdge = true := by
    rw [State.atVblankEdge_iff]
    rintro ⟨h1, h2⟩
    unfold State.sinceVblank at h
    omega
  have hcy : s.advance.cycle.toNat = if s.cycle.toNat = 340 then 0 else s.cycle.toNat + 1 := by
    rw [State.advance_cycle]
    split
    · rfl
    · rw [BitVec.toNat_add]
      simp
      omega
  have hsc := State.advance_scanline s
  refine ⟨?_, by rw [hcy]; split <;> omega, by rw [hsc]; split_ifs <;> omega, ?_⟩
  · unfold State.sinceVblank at *
    rw [hcy, hsc]
    split_ifs <;> omega
  · rw [State.advance_away s he]

theorem runAll_tickN_succ (n : Nat) (s : State) : runAll (tickN (n + 1)) s = runAll (tickN n) s.advance := rfl

theorem runEvents_tickN_succ (n : Nat) (s : State) :
    runEvents (tickN (n + 1)) s = s.advance.out.events ++ runEvents (tickN n) s.advance := rfl

/-- A run of TICKs up to the last position before the next frame event completes and sends nothing. -/
theorem runAll_tickN (n : Nat) (s : State) (hc : s.cycle.toNat ≤ 340) (hs : s.scanline.toNat < 260)
    (h : s.sinceVblank + n ≤ 88659) :
    ∃ u, runAll (tickN n) s = .next u ∧ runEvents (tickN n) s = [] ∧ u.sinceVblank = s.sinceVblank + n ∧
      u.cycle.toNat ≤ 340 ∧ u.scanline.toNat < 260 := by
  induction n generalizing s with
  | zero => exact ⟨s, rfl, rfl, (Nat.add_zero _).symm, hc, hs⟩
  | succ n ih =>
    have hlt : s.sinceVblank < 88659 := by omega
    obtain ⟨h1, h2, h3, h4⟩ := State.advance_sinceVblank hc hs hlt
    have hle : s.advance.sinceVblank + n ≤ 88659 := by omega
    obtain ⟨u, hr, he, hu, hu2⟩ := ih s.advance h2 h3 hle
    have hn : u.sinceVblank = s.sinceVblank + (n + 1) := by omega
    rw [runAll_tickN_succ, runEvents_tickN_succ, h4, he]
    exact ⟨u, hr, rfl, hn, hu2⟩

/-- The last position before the frame event. -/
theorem State.atVblankEdge_of_sinceVblank {s : State} (hc : s.cycle.toNat ≤ 340) (hs : s.scanline.toNat < 260)
    (h : s.sinceVblank = 88659) : s.atVblankEdge = true := by
  rw [State.atVblankEdge_iff]
  unfold State.sinceVblank at h
  omega

end Sys2Proof.Machine
end

