-- ==== Sys2Proof/Laws/Step.lean ====
section
/-! SUPPORT. From the input ports to `exec`. -/

namespace Sys2Proof.Machine

/-- The four kinds of a command word. -/
theorem kind_cases (k : BitVec 2) : k = 0#2 ∨ k = 1#2 ∨ k = 2#2 ∨ k = 3#2 := by
  revert k; decide

/-- The ports made from a command word carry that command word (30_encoding R81, R82). -/
theorem Ports.event_ofWord (w : CommandWord) : (Ports.ofWord w).event = .command w := by
  have hp := packWord_fields w
  unfold packWord wordKind wordAddr wordData at hp
  unfold Ports.event Ports.count Ports.kind Ports.ofWord
  rcases kind_cases (w.extractLsb' 24 2) with h | h | h | h <;> rw [h] at hp ⊢ <;> simpa using hp

/-- A step whose ports carry a command word runs the operation it decodes to (00_scope R14). -/
theorem step_command {s : State} {p : Ports} {rest : List Ports} {w : CommandWord}
    (hi : s.inputs = p :: rest) (hw : p.event = .command w) :
    step s = exec (decode w) (s.withInputs rest) := by
  unfold step; rw [hi]; simp only [hw]

/-- The very next step after `withFetchWord` runs the word. -/
theorem step_withFetchWord (s : State) (n w : Nat) (hw : w < 2 ^ 26) :
    step (s.withFetchWord n w) = exec (decode (BitVec.ofNat 26 w)) s := by
  unfold State.withFetchWord
  rw [if_pos hw, step_command (p := Ports.ofWord (BitVec.ofNat 26 w)) (rest := s.inputs) rfl
    (Ports.event_ofWord _)]
  rfl

end Sys2Proof.Machine
end

