-- ==== Sys2Proof/Tests/Slice0.lean ====
section
/-! SUPPORT. Tests: words and vectors taken from the spec (30_encoding R84 to R94, 41_register_writes R141 to R155,
42_register_reads R171 to R173, 43_render_pipeline R182 to R186, 95_test_vectors), and one witness for each statement
that has hypotheses. -/

namespace Sys2Proof.Tests

open Sys2Proof Sys2Proof.Machine

/-- The state an operation leaves. -/
def after (i : Instr) (s : State) : State :=
  match exec i s with
  | .next t => t
  | .fault _ => s
  | .refused _ => s

/-- The reset state, moved to a raster position of frame 0. -/
def pos (c l : Nat) : State :=
  { State.reset with cycle := BitVec.ofNat 9 c, scanline := BitVec.ofNat 9 l, nmiFlag := decide (225 ≤ l) }

/-- A state in the vblank of frame 0, after its handoff (T6, T40). -/
def blank (c l : Nat) : State := { pos c l with active := 1#1, handedOver := true }

/-- A state in the picture of frame 1 (T8, T41). -/
def frame1 (c l : Nat) : State :=
  { pos c l with frameCount := 1#32, active := 1#1, handedOver := true }

/-- The data port set up: increment, flag, word address (T20 to T28). -/
def port (inc : BitVec 8) (flag : Bool) (a : VramAddr) : State :=
  { State.reset with vramIncrement := inc, incrementOnHighByteWrite := flag, vramAddress := a }

/-- Program P3 of 95_test_vectors before its TICKs: one tile, three colours. -/
def p3 : State :=
  { pos 340 224 with
    layer0 := ⟨0x0800#16, 0x2000#16, false, false⟩
    vram := [(0x0844, 0x01#8), (0x0845, 0x14#8), (0x2010, 0xF0#8), (0x2011, 0xCC#8)]
    cgram := [(0, 0x00#8), (1, 0x7C#8), (0x2A, 0x1F#8), (0x2B, 0x00#8), (0x2C, 0xE0#8), (0x2D, 0x03#8),
      (0x2E, 0xFF#8), (0x2F, 0x7F#8)] }

/-! ### Well-formedness -/

theorem test_write_register_is_no_default_write :
    (Instr.writeOther 0x2107#16 0#8).wellFormed = false ∧ (Instr.writeOther 0x2122#16 0#8).wellFormed = false ∧
      (Instr.writeOther 0x4200#16 0x80#8).wellFormed = false := by decide

theorem test_read_register_is_no_default_read :
    (Instr.readOther 0x4210#16).wellFormed = false ∧ (Instr.readOther 0x4212#16).wellFormed = false := by decide

theorem test_other_direction_is_default :
    (Instr.writeOther 0x4210#16 0xFF#8).wellFormed = true ∧ (Instr.readOther 0x2118#16).wellFormed = true := by decide

/-! ### Decoding: words from the encodings of 30_encoding R84 to R94 and from 95_test_vectors -/

theorem test_decode_tilemap0 : decode 0x22107FF#26 = .tilemap0 0xFF#8 := by decide
theorem test_decode_tilemap1 : decode 0x2210804#26 = .tilemap1 0x04#8 := by decide
theorem test_decode_tilemap2 : decode 0x2210913#26 = .tilemap2 0x13#8 := by decide
theorem test_decode_tilemap3 : decode 0x2210A40#26 = .tilemap3 0x40#8 := by decide
theorem test_decode_chrbase01 : decode 0x2210B9A#26 = .chrbase01 0x9A#8 := by decide
theorem test_decode_chrbase23 : decode 0x2210C10#26 = .chrbase23 0x10#8 := by decide
theorem test_decode_vportctrl : decode 0x2211570#26 = .vportctrl 0x70#8 := by decide
theorem test_decode_vaddrl : decode 0x2211634#26 = .vaddrl 0x34#8 := by decide
theorem test_decode_vaddrh : decode 0x2211712#26 = .vaddrh 0x12#8 := by decide
theorem test_decode_vdatal : decode 0x22118A5#26 = .vdatal 0xA5#8 := by decide
theorem test_decode_vdatah : decode 0x221195A#26 = .vdatah 0x5A#8 := by decide
theorem test_decode_cgaddr : decode 0x22121FF#26 = .cgaddr 0xFF#8 := by decide
theorem test_decode_cgdata : decode 0x2212234#26 = .cgdata 0x34#8 := by decide
theorem test_decode_nmien : decode 0x242007F#26 = .nmien 0x7F#8 := by decide
theorem test_decode_nmistat : decode 0x1421000#26 = .nmistat := by decide
theorem test_decode_hvstat : decode 0x1421200#26 = .hvstat := by decide
theorem test_decode_readOther : decode 0x1211800#26 = .readOther 0x2118#16 := by decide
theorem test_decode_writeOther : decode 0x24210FF#26 = .writeOther 0x4210#16 0xFF#8 := by decide
theorem test_decode_tick : decode 0x0000000#26 = .tick := by decide
theorem test_decode_reset : decode 0x3000000#26 = .reset := by decide

/-- A number of 27 bits is no command word. -/
theorem test_decode_rejects : decodeTableWord 26 0x4000000 = none := by decide

/-- The host's numbering: the whole word, bit 0 its least significant bit. -/
theorem test_decodeTableWord : decodeTableWord 26 0x2421280 = some (.writeOther 0x4212#16 0x80#8) := by decide

theorem test_encode_vdatah : encode (.vdatah 0x5A#8) = 0x221195A#26 := by decide

/-! ### Register writes (41_register_writes, 95_test_vectors parts 2.2 to 2.5) -/

/-- T14. -/
theorem test_tilemap0 : (after (.tilemap0 0xFF#8) State.reset).layer0 = ⟨0xF800#16, 0#16, true, true⟩ := by decide

/-- T15, on a layer with its CHR base set, which stays. -/
theorem test_tilemap0_keeps_chr :
    (after (.tilemap0 0x7C#8) { State.reset with layer0 := ⟨0#16, 0x4000#16, true, true⟩ }).layer0 =
      ⟨0xF800#16, 0x4000#16, false, false⟩ := by decide

/-- T16. -/
theorem test_tilemap1 : (after (.tilemap1 0x04#8) State.reset).layer1 = ⟨0x0800#16, 0#16, false, false⟩ := by decide

/-- 30_encoding R85: 0x13 is base field 4, both mirror bits set. -/
theorem test_tilemap2 : (after (.tilemap2 0x13#8) State.reset).layer2 = ⟨0x2000#16, 0#16, true, true⟩ := by decide

/-- 30_encoding R85: 0x41 is base field 0x10, bit 0 the horizontal flag. -/
theorem test_tilemap3 : (after (.tilemap3 0x41#8) State.reset).layer3 = ⟨0x8000#16, 0#16, true, false⟩ := by decide

/-- T17: the low nibble to layer 0, the high to layer 1. -/
theorem test_chrbase01 :
    (after (.chrbase01 0x9A#8) State.reset).layer0.chrAddress = 0x4000#16 ∧
      (after (.chrbase01 0x9A#8) State.reset).layer1.chrAddress = 0x2000#16 := by decide

/-- T17b. -/
theorem test_chrbase23 :
    (after (.chrbase23 0x10#8) State.reset).layer2.chrAddress = 0#16 ∧
      (after (.chrbase23 0x10#8) State.reset).layer3.chrAddress = 0x2000#16 := by decide

/-- T18, T19. -/
theorem test_vportctrl_increment :
    (after (.vportctrl 0x01#8) State.reset).vramIncrement = 32#8 ∧
      (after (.vportctrl 0x02#8) State.reset).vramIncrement = 128#8 ∧
      (after (.vportctrl 0xFF#8) State.reset).vramIncrement = 128#8 ∧
      (after (.vportctrl 0x70#8) State.reset).vramIncrement = 1#8 := by decide

/-- T19. -/
theorem test_vportctrl_other_fields :
    (after (.vportctrl 0x0C#8) State.reset).vramRemapMode = 3#2 ∧
      (after (.vportctrl 0x7C#8) State.reset).incrementOnHighByteWrite = false ∧
      (after (.vportctrl 0x80#8) State.reset).incrementOnHighByteWrite = true := by decide

/-- 41_register_writes R148. -/
theorem test_vaddrl : (after (.vaddrl 0xFF#8) (port 1#8 false 0x1234#15)).vramAddress = 0x12FF#15 := by decide

/-- 41_register_writes R149 and T29: bit 7 is dropped. -/
theorem test_vaddrh :
    (after (.vaddrh 0xFF#8) (port 1#8 false 0x0034#15)).vramAddress = 0x7F34#15 ∧
      (after (.vaddrh 0x92#8) (port 1#8 false 0x0034#15)).vramAddress = 0x1234#15 := by decide

/-- T20, T22. -/
theorem test_vdatal :
    (after (.vdatal 0xA5#8) (port 32#8 false 0x0100#15)).vram = [(0x0200, 0xA5#8)] ∧
      (after (.vdatal 0xA5#8) (port 32#8 false 0x0100#15)).vramAddress = 0x0120#15 ∧
      (after (.vdatal 0xA5#8) (port 32#8 true 0x0100#15)).vramAddress = 0x0100#15 := by decide

/-- T26, T28: the wrap. -/
theorem test_vdatal_wraps :
    (after (.vdatal 0xEE#8) (port 1#8 false 0x7FFF#15)).vram = [(0xFFFE, 0xEE#8)] ∧
      (after (.vdatal 0xEE#8) (port 1#8 false 0x7FFF#15)).vramAddress = 0#15 ∧
      (after (.vdatal 0x02#8) (port 128#8 false 0x7F90#15)).vramAddress = 0x0010#15 := by decide

/-- T21, T23. -/
theorem test_vdatah :
    (after (.vdatah 0x5A#8) (port 32#8 false 0x0120#15)).vram = [(0x0241, 0x5A#8)] ∧
      (after (.vdatah 0x5A#8) (port 32#8 false 0x0120#15)).vramAddress = 0x0120#15 ∧
      (after (.vdatah 0x5A#8) (port 32#8 true 0x0100#15)).vramAddress = 0x0120#15 := by decide

/-- T25, T26b: a second store at one place, and the top of memory. -/
theorem test_vdatah_overwrites :
    (after (.vdatah 0x33#8) { port 1#8 false 0x0100#15 with vram := [(0x0201, 0x22#8)] }).vram =
        [(0x0201, 0x33#8)] ∧
      (after (.vdatah 0xEF#8) (port 1#8 true 0x7FFF#15)).vram = [(0xFFFF, 0xEF#8)] := by decide

/-- T30. -/
theorem test_cgaddr : (after (.cgaddr 0xFF#8) State.reset).cgramAddress = 0x1FE#9 := by decide

/-- T31 (the source's example S5), second byte. -/
theorem test_cgdata :
    (after (.cgdata 0x12#8) { State.reset with cgramAddress := 0x21#9, cgram := [(0x20, 0x34#8)] }).cgram =
        [(0x20, 0x34#8), (0x21, 0x12#8)] ∧
      (after (.cgdata 0x12#8) { State.reset with cgramAddress := 0x21#9 }).cgramAddress = 0x22#9 := by decide

/-- T32: the wrap of the pointer. -/
theorem test_cgdata_wraps :
    (after (.cgdata 0xBB#8) { State.reset with cgramAddress := 0x1FF#9 }).cgram = [(0x1FF, 0xBB#8)] ∧
      (after (.cgdata 0xBB#8) { State.reset with cgramAddress := 0x1FF#9 }).cgramAddress = 0#9 := by decide

/-- T35. -/
theorem test_nmien :
    (after (.nmien 0x80#8) State.reset).nmiEnable = true ∧
      (after (.nmien 0x7F#8) { State.reset with nmiEnable := true }).nmiEnable = false := by decide

/-- T36: a late enable sends nothing. -/
theorem test_nmien_late : (after (.nmien 0x80#8) (blank 100 230)).out.events = [] := by decide

/-- T39b. -/
theorem test_writeOther : exec (.writeOther 0x4212#16 0xFF#8) State.reset = .next State.reset := rfl

/-! ### Register reads (42_register_reads, 95_test_vectors part 2.5) -/

/-- T37, whatever the open constant is; a second read answers the same. -/
theorem test_nmistat :
    (after .nmistat (pos 0 224)).out.readData = some (0#1 ++ Config.openBus4210) ∧
      (after .nmistat (after .nmistat (blank 0 225))).out.readData = some (1#1 ++ Config.openBus4210) :=
  ⟨rfl, rfl⟩

/-- T38. -/
theorem test_hvstat_hblank :
    (after .hvstat (pos 0 0)).busRdata = some 0x40#8 ∧ (after .hvstat (pos 21 0)).busRdata = some 0x40#8 ∧
      (after .hvstat (pos 22 0)).busRdata = some 0#8 ∧ (after .hvstat (pos 288 0)).busRdata = some 0#8 ∧
      (after .hvstat (pos 289 0)).busRdata = some 0x40#8 ∧ (after .hvstat (pos 340 0)).busRdata = some 0x40#8 := by
  decide

/-- T38b. -/
theorem test_hvstat_vblank :
    (after .hvstat (pos 100 224)).busRdata = some 0#8 ∧ (after .hvstat (pos 22 225)).busRdata = some 0x80#8 ∧
      (after .hvstat (pos 340 259)).busRdata = some 0xC0#8 := by decide

/-- T39: the data port's address is kept. -/
theorem test_readOther :
    (after (.readOther 0x2118#16) (port 1#8 false 0x0100#15)).busRdata = some 0#8 ∧
      (after (.readOther 0x2118#16) (port 1#8 false 0x0100#15)).vramAddress = 0x0100#15 := by decide

/-! ### TICK and RESET (95_test_vectors parts 2.1, 2.6, 2.8) -/

/-- T2, T8, T10. -/
theorem test_tick_line_and_wrap :
    (after .tick (pos 340 0)).getState = ⟨0#9, 1#9, 0#32⟩ ∧
      (after .tick (blank 340 259)).getState = ⟨0#9, 0#9, 1#32⟩ ∧
      (after .tick { blank 340 259 with frameCount := 0xFFFFFFFF#32 }).getState = ⟨0#9, 0#9, 0#32⟩ ∧
      (after .tick (blank 340 259)).nmiFlag = false := by decide

/-- T6, T44: the frame events, in order. -/
theorem test_tick_vblank :
    (after .tick (pos 340 224)).out.events = [.frameReady, .frameHandoff 0#1 0#32] ∧
      (after .tick { pos 340 224 with nmiEnable := true }).out.events =
        [.frameReady, .frameHandoff 0#1 0#32, .nmi] ∧
      (after .tick (pos 340 224)).active = 1#1 ∧ (after .tick (pos 340 224)).nmiFlag = true ∧
      (after .tick (frame1 340 224)).out.events = [.frameReady, .frameHandoff 1#1 1#32] := by decide

/-- T60; the held ports keep the buffer and frame of the last handoff (30_encoding R81). -/
theorem test_reset :
    (after .reset { blank 7 230 with voBuf := 1#1, voFrame := 5#32 }) =
      { State.reset with draws := 1, voBuf := 1#1, voFrame := 5#32, handedOver := true } := by decide

/-- T6, T41 on the held ports: the buffer just rendered and the frame before the wrap, kept over a later TICK. -/
theorem test_held_ports :
    (after .tick (frame1 340 224)).voBuf = 1#1 ∧ (after .tick (frame1 340 224)).voFrame = 1#32 ∧
      (after .tick { frame1 340 259 with voBuf := 1#1, voFrame := 1#32 }).voFrame = 1#32 := by decide

/-! ### Rendering (95_test_vectors part 2.7, program P3) -/

/-- T51. -/
theorem test_palOffset :
    palOffset 1#3 1#2 = 10 ∧ palOffset 5#3 0#2 = 0 ∧ palOffset 5#3 2#2 = 44 ∧ palOffset 7#3 3#2 = 62 := by decide

/-- T52, at both settings of the tile-index field. -/
theorem test_entry_fields :
    tileIndex cfg 0x34#8 0x5F#8 = 0x134#10 ∧ palGroup cfg 0x5F#8 = 7#3 ∧
      tileIndex { cfg with tileidxHiLsb := 0 } 0x34#8 0x5F#8 = 0x334#10 ∧ tileIndex cfg 0xFF#8 0xC0#8 = 0x3FF#10 ∧
      palGroup cfg 0x14#8 = 5#3 := by decide

/-- T53. -/
theorem test_colourIndex :
    (List.range 8).map (colourIndex cfg 0xF0#8 0xCC#8) = [3#2, 3#2, 1#2, 1#2, 2#2, 2#2, 0#2, 0#2] ∧
      (List.range 8).map (colourIndex cfg 0x81#8 0x42#8) = [1#2, 2#2, 0#2, 0#2, 0#2, 0#2, 2#2, 1#2] := by decide

/-- T54, T55. -/
theorem test_render_addresses :
    entryAddr cfg 0x0800#16 1 2 = 0x0844 ∧ entryAddr cfg 0x0800#16 27 31 = 0x0EFE ∧
      chrAddr cfg 0xE000#16 0x200#10 = 0x10000 ∧ rowAddr cfg 0xE000#16 0x3FF#10 7 + 1 = 73727 := by decide

/-- Program P3, row 8: the colours of pixels 16 to 23. -/
theorem test_p3_pixels :
    (List.range 8).map (fun i => p3.pixelAt (16 + i) 8) =
      [0x7FFF#16, 0x7FFF#16, 0x001F#16, 0x001F#16, 0x03E0#16, 0x03E0#16, 0x7C00#16, 0x7C00#16] := by decide

/-! ### Steps -/

/-- The very next step runs the word. -/
theorem test_step_runs_the_word :
    step (State.reset.withFetchWord 26 0x2211634) = exec (.vaddrl 0x34#8) State.reset := rfl

/-- With no event presented, nothing happens. -/
theorem test_step_of_reset : step State.reset = .next State.reset := rfl

/-- A TICK and a READ in one step (00_scope R14, D26). -/
theorem test_two_events_refused :
    step { State.reset with inputs := [⟨false, true, true, false, 0x4210#16, 0#8⟩] } =
      .refused .simultaneousEvents := rfl

/-- A RESET and a WRITE in one step. -/
theorem test_reset_and_write_refused :
    step { State.reset with inputs := [⟨true, false, false, true, 0x2107#16, 0xFF#8⟩] } =
      .refused .simultaneousEvents := rfl

/-- Before any handoff the video output has no buffer it may read (60_exceptions R226), while the port `vo_pixel` shows
the pixel of the buffer `vo_buf` names (30_encoding R81). -/
theorem test_before_the_first_handoff :
    State.reset.voRead 0#1 0#8 0#8 = .error .bufferNotHandedOver ∧
      State.reset.voPixel 2#8 1#8 = State.reset.fbRead State.reset.voBuf 2 1 := ⟨rfl, rfl⟩

/-! ### The trace notation (30_encoding R105, R106) -/

theorem test_trace_lines :
    traceLine (.tilemap0 0xFF#8) = "W $2107,#$FF".toList ∧ traceLine .nmistat = "R $4210".toList ∧
      traceLine .tick = "TICK".toList ∧ traceWord (.tilemap0 0xFF#8) = "22107FF".toList := by decide

/-- From (0, 0), line 225 is 76725 TICKs away; a line already begun is reached in the next frame. -/
theorem test_toline :
    tolineCount State.reset 225 = 76725 ∧ tolineCount State.reset 0 = 88660 ∧ tolineCount (pos 340 0) 1 = 1 := by
  decide

/-! ### Witnesses: each statement's hypotheses are met together -/

theorem pos_inv_edge : (pos 340 224).Inv := by constructor <;> decide

theorem blank_inv : (blank 0 225).Inv := by constructor <;> decide

theorem blank_inv_last : (blank 340 259).Inv := by constructor <;> decide

theorem frame1_inv_edge : (frame1 340 224).Inv := by constructor <;> decide

theorem witness_DecodeAfterEncode :
    (Instr.writeOther 0xFFFF#16 0xFF#8).wellFormed = true ∧ (Instr.writeOther 0x2106#16 0#8).wellFormed = true ∧
      (Instr.readOther 0x4211#16).wellFormed = true ∧ (Instr.vdatah 0xFF#8).wellFormed = true := by decide

theorem witness_EveryWordSelectsOneRow :
    (∀ q ∈ registerRows, q.applies 0x2421000#26 = false) ∧
      (∃ q ∈ kindRows, q.applies 0x2421000#26 = true) ∧ ∃ q ∈ registerRows, q.applies 0x14210FF#26 = true := by
  refine ⟨by decide, by decide, by decide⟩

theorem witness_StepRunsThePresentedEvent : (Instr.readOther 0x2118#16).wellFormed = true := by decide

theorem witness_StepWithoutEventHolds :
    State.reset.inputs = [] ∧
      { State.reset with inputs := [⟨false, false, false, false, 0#16, 0#8⟩] }.inputs =
        ⟨false, false, false, false, 0#16, 0#8⟩ :: [] := ⟨rfl, rfl⟩

theorem witness_TickWithinScanline :
    (pos 0 0).cycle.toNat < 340 ∧ (pos 339 259).cycle.toNat < 340 ∧ (pos 340 5).cycle.toNat ≤ 340 ∧
      ∃ t, exec .tick (pos 340 5) = .next t := ⟨by decide, by decide, by decide, _, rfl⟩

theorem witness_TickEndsScanline :
    ((pos 340 0).cycle.toNat = 340 ∧ (pos 340 0).scanline.toNat < 259 ∧ (pos 340 0).scanline.toNat ≠ 224) ∧
      ((pos 340 258).cycle.toNat = 340 ∧ (pos 340 258).scanline.toNat < 259) ∧ (pos 339 0).cycle.toNat = 339 ∧
      ((pos 0 258).cycle = 0#9 ∧ (pos 0 258).scanline.toNat < 259) ∧
      ∃ t, exec (.vaddrl 0#8) (pos 340 0) = .next t :=
  ⟨by decide, by decide, by decide, by decide, _, rfl⟩

theorem witness_TickStartsVblank : (pos 340 224).cycle.toNat = 340 ∧ (pos 340 224).scanline.toNat = 224 := by decide

theorem witness_TickWrapsFrame : (blank 340 259).cycle.toNat = 340 ∧ (blank 340 259).scanline.toNat = 259 := by
  decide

theorem witness_RunMovesPositionByItsTicks :
    Instr.reset ∉ [Instr.tick, .hvstat, .tick] ∧ (blank 340 259).cycle.toNat ≤ 340 ∧
      (blank 340 259).scanline.toNat < 260 := by decide

theorem witness_FrameOfTicksReturnsToItsStart :
    Instr.reset ∉ tickN 88660 ∧ countTicks (tickN 88660) = 341 * 260 ∧ (pos 0 0).cycle.toNat ≤ 340 ∧
      (pos 0 0).scanline.toNat < 260 := by
  refine ⟨fun h => ?_, List.count_replicate_self, by decide, by decide⟩
  have := List.eq_of_mem_replicate h
  cases this

theorem witness_HandoffsAreCountedByFrames :
    Instr.reset ∉ [Instr.tick] ∧ (pos 340 224).Inv ∧ ∃ t, runAll [.tick] (pos 340 224) = .next t :=
  ⟨by decide, pos_inv_edge, _, rfl⟩

theorem witness_NmiFlagFollowsTheRaster :
    (∃ t, exec .tick (pos 340 224) = .next t ∧ (pos 340 224).atVblankEdge = true) ∧
      (∃ t, exec .tick (blank 340 259) = .next t ∧ (blank 340 259).atFrameWrap = true) ∧
      ∃ t t', exec .nmistat (blank 0 225) = .next t ∧ exec .nmistat { blank 0 225 with nmiFlag := false } = .next t' :=
  ⟨⟨_, rfl, by decide⟩, ⟨_, rfl, by decide⟩, _, _, rfl, rfl⟩

theorem witness_NmiIsSentExactlyAtVblankStart :
    (∃ t, exec .tick { pos 340 224 with nmiEnable := true } = .next t) ∧
      Instr.reset ∉ [Instr.nmien 0x80#8, .tick] ∧ ∃ t, runAll [.nmien 0x80#8, .tick] State.reset = .next t :=
  ⟨⟨_, rfl⟩, by decide, _, rfl⟩

theorem witness_EnableDecidesOnlyThePulse :
    (∃ t t', exec .tick (pos 340 224) = .next t ∧ exec .tick { pos 340 224 with nmiEnable := true } = .next t' ∧
        (pos 340 224).atVblankEdge = true) ∧
      ∃ t t', exec .tick (pos 339 224) = .next t ∧ exec .tick { pos 339 224 with nmiEnable := true } = .next t' ∧
        ¬(Instr.tick = .tick ∧ (pos 339 224).atVblankEdge = true) ∧ Instr.tick ≠ .reset ∧
        ∀ v, Instr.tick ≠ .nmien v := by
  refine ⟨⟨_, _, rfl, rfl, by decide⟩, _, _, rfl, rfl, by decide, by decide, fun v h => ?_⟩
  cases h

theorem witness_OnlyVblankTickTouchesFrames :
    ¬(Instr.tick = .tick ∧ (blank 340 259).atVblankEdge = true) ∧ (∃ t, exec .tick (blank 340 259) = .next t) ∧
      Instr.tick ≠ .reset := ⟨by decide, ⟨_, rfl⟩, by decide⟩

theorem witness_FlagSelectsTheIncrementingHalf :
    (∀ inc ∈ [1#8, 32#8, 128#8], ∀ f : Bool, ∃ t u, exec (.vdatal 1#8) (port inc f 0x7FFF#15) = .next t ∧
        exec (.vdatah 2#8) (port inc f 0x7FFF#15) = .next u ∧ (port inc f 0x7FFF#15).vramIncrement = inc ∧
        (port inc f 0x7FFF#15).incrementOnHighByteWrite = f) ∧
      Instr.tick ≠ .reset ∧ (∀ v, Instr.tick ≠ .vportctrl v) ∧ ∃ t, exec .tick (pos 0 0) = .next t := by
  refine ⟨fun inc _ f => ⟨_, _, rfl, rfl, rfl, rfl⟩, by decide, fun v h => ?_, _, rfl⟩
  cases h

theorem witness_NmienWrite :
    ¬(Instr.tick = .tick ∧ (pos 339 224).atVblankEdge = true) ∧
      ∃ t t', exec .tick (pos 339 224) = .next t ∧ exec .tick { pos 339 224 with nmiEnable := true } = .next t' :=
  ⟨by decide, _, _, rfl, rfl⟩

theorem witness_UnrecognisedWritesAreIgnored : 0x4210#16 ∉ writeAddrs ∧ 0x4201#16 ∉ writeAddrs := by decide

theorem witness_WritesChangeOnlyWhatTheirRuleNames :
    isWrite (.vdatal 0xFF#8) = true ∧ isWrite (.writeOther 0x2100#16 0x8F#8) = true := by decide

theorem witness_IdempotentAndNotIdempotentAccesses :
    (isRead (.readOther 0x2118#16) = true ∧ ∃ t, exec (.readOther 0x2118#16) State.reset = .next t) ∧
      (isWrite (.vaddrh 0xFF#8) = true ∧ isDataPort (.vaddrh 0xFF#8) = false ∧
        ∃ t, exec (.vaddrh 0xFF#8) State.reset = .next t) ∧
      (∃ t, exec (.cgdata 0#8) { State.reset with cgramAddress := 0x1FF#9 } = .next t) ∧
      (port 128#8 false 0x7FFF#15).vramIncrement = 128#8 ∧
      (∃ t, exec (.vdatal 0#8) (port 128#8 false 0x7FFF#15) = .next t) ∧
      ∃ t, exec (.vdatah 0#8) (port 128#8 true 0x7FFF#15) = .next t :=
  ⟨⟨by decide, _, rfl⟩, ⟨by decide, by decide, _, rfl⟩, ⟨_, rfl⟩, by decide, ⟨_, rfl⟩, _, rfl⟩

theorem witness_WordThroughTheVramPort :
    5 % 65536 ≠ 2 * ((0xFF#8).toNat % 128 * 256 + (0xFF#8).toNat) ∧
      5 % 65536 ≠ 2 * ((0xFF#8).toNat % 128 * 256 + (0xFF#8).toNat) + 1 := by decide

theorem witness_NmistatRead : (blank 0 225).Inv ∧ (pos 340 224).Inv := ⟨blank_inv, pos_inv_edge⟩

theorem witness_UnrecognisedReadsAreZero : 0x2118#16 ∉ readAddrs ∧ 0x4211#16 ∉ readAddrs := by decide

theorem witness_ReadsCanBeDropped : isRead .nmistat = true ∧ isRead (.readOther 0xFFFF#16) = true := by decide

theorem witness_RenderLoopIsThePixelFunction :
    Bank.wf 57344 ({ pos 340 224 with fb0 := [(0, 1#16), (57343, 2#16)] }.fb 0#1) = true := by decide

theorem witness_PictureDependsOnlyOnItsInputs :
    (pos 340 224).atVblankEdge = true ∧ (frame1 340 224).atVblankEdge = true ∧
      (∀ a, (pos 340 224).vramRead a = (frame1 340 224).vramRead a) ∧
      (∀ a, a < 64 → (pos 340 224).cgRead a = (frame1 340 224).cgRead a) ∧
      (pos 340 224).layer0 = (frame1 340 224).layer0 ∧
      ∃ t t', exec .tick (pos 340 224) = .next t ∧ exec .tick (frame1 340 224) = .next t' :=
  ⟨by decide, by decide, fun _ => rfl, fun _ _ => rfl, rfl, _, _, rfl, rfl⟩

theorem witness_RenderFetchRanges :
    { pos 0 0 with layer0 := ⟨0xF800#16, 0xE000#16, false, false⟩ }.Inv ∧ 27 < 28 ∧ 31 < 32 ∧ 7 < 8 := by
  refine ⟨?_, by decide, by decide, by decide⟩
  constructor <;> decide

theorem witness_UnreadStateHasNoEffect :
    { p3 with layer0 := ⟨0x0800#16, 0x2000#16, true, true⟩, layer3 := ⟨0x8000#16, 0#16, true, false⟩,
              vramRemapMode := 3#2, oam := [(543, 1#8)] }.eraseUnread = p3.eraseUnread := by decide

theorem witness_OnlyDataPortsWriteVideoMemory :
    Instr.tick ≠ .reset ∧ (∃ t, exec .tick (pos 340 224) = .next t) ∧ (∀ v, Instr.tick ≠ .vdatal v) ∧
      (∀ v, Instr.tick ≠ .vdatah v) ∧ ∀ v, Instr.tick ≠ .cgdata v := by
  refine ⟨by decide, ⟨_, rfl⟩, fun v h => ?_, fun v h => ?_, fun v h => ?_⟩ <;> cases h

theorem witness_HandedOverBufferHoldsThePicture :
    p3.atVblankEdge = true ∧ (∃ t, exec .tick p3 = .next t) ∧ (223#8).toNat < 224 :=
  ⟨by decide, ⟨_, rfl⟩, by decide⟩

theorem witness_HandedOverFrameIsStable :
    (¬(Instr.cgdata 0#8 = .tick ∧ (blank 0 225).atVblankEdge = true) ∧
        (∃ t, exec (.cgdata 0#8) (blank 0 225) = .next t) ∧ Instr.cgdata 0#8 ≠ .reset) ∧
      (¬(Instr.reset = .tick ∧ (blank 0 225).atVblankEdge = true) ∧ ∃ t, exec .reset (blank 0 225) = .next t) ∧
      ∃ t u, (pos 340 224).atVblankEdge = true ∧ exec .tick (pos 340 224) = .next t ∧ Instr.reset ∉ [Instr.tick] ∧
        (runEvents [.tick] t).countP OutEvent.isHandoff ≤ 1 ∧ runAll [.tick] t = .next u :=
  ⟨⟨by decide, ⟨_, rfl⟩, by decide⟩, ⟨by decide, _, rfl⟩,
    after .tick (pos 340 224), after .tick (after .tick (pos 340 224)), by decide, rfl, by decide, by decide, rfl⟩

theorem witness_HandoffsAlternate :
    ∃ t u, (pos 340 224).atVblankEdge = true ∧ exec .tick (pos 340 224) = .next t ∧
      Instr.reset ∉ tickN 88659 ∧ (runEvents (tickN 88659) t).countP OutEvent.isHandoff = 0 ∧
      runAll (tickN 88659) t = .next u ∧ u.atVblankEdge = true := by
  have ht : exec .tick (pos 340 224) = .next (after .tick (pos 340 224)) := rfl
  have hc : (after .tick (pos 340 224)).cycle.toNat ≤ 340 := by decide
  have hs : (after .tick (pos 340 224)).scanline.toNat < 260 := by decide
  have h0 : (after .tick (pos 340 224)).sinceVblank = 0 := by decide
  generalize after .tick (pos 340 224) = t at *
  obtain ⟨u, hr, he, hu, huc, hus⟩ := runAll_tickN 88659 t hc hs (by rw [h0])
  rw [h0, Nat.zero_add] at hu
  refine ⟨t, u, by decide, ht, fun h => ?_, ?_, hr, State.atVblankEdge_of_sinceVblank huc hus hu⟩
  · have := List.eq_of_mem_replicate h
    cases this
  · rw [he]; rfl

theorem witness_EveryStepKeepsInvariant :
    ((pos 340 224).withFetchWord 26 0).Inv ∧ (∃ t, step ((pos 340 224).withFetchWord 26 0) = .next t) ∧
      ((blank 340 259).withFetchWord 26 0).Inv ∧ ∃ t, step ((blank 340 259).withFetchWord 26 0) = .next t := by
  refine ⟨?_, ⟨_, step_withFetchWord _ 26 0 (by decide)⟩, ?_, _, step_withFetchWord _ 26 0 (by decide)⟩ <;>
    constructor <;> decide

theorem witness_EveryOperationKeepsMemoriesCanonical :
    { p3 with fb1 := [(57343, 1#16)] }.memoriesWf = true ∧ ∃ t, exec .tick p3 = .next t := ⟨by decide, _, rfl⟩

theorem witness_TolineIsTheLeastCount :
    (blank 340 259).cycle.toNat ≤ 340 ∧ (blank 340 259).scanline.toNat < 260 ∧ 259 < 260 ∧ 1 ≤ 1 ∧
      1 < tolineCount (blank 340 259) 259 := by decide

end Sys2Proof.Tests
end

section
/-! PROOFS. Memory and the bus (20_memory): which accesses are idempotent (R66), and colours through the palette
port (R58). First what the operations do, then the statements. -/

namespace Sys2Proof.Machine

/-! ### Register fields -/

/-- Replacing the bits outside a mask a second time by the same bits changes nothing. -/
theorem mask_or_idempotent {w : Nat} (a m v : BitVec w) : (((a &&& m) ||| v) &&& m) ||| v = (a &&& m) ||| v := by
  apply BitVec.eq_of_getLsbD_eq
  intro i _
  simp only [BitVec.getLsbD_or, BitVec.getLsbD_and]
  cases a.getLsbD i <;> cases m.getLsbD i <;> simp

@[simp] theorem withAddrLow_withAddrLow (a : VramAddr) (v : Byte) :
    withAddrLow (withAddrLow a v) v = withAddrLow a v :=
  mask_or_idempotent ..

@[simp] theorem withAddrHigh_withAddrHigh (a : VramAddr) (v : Byte) :
    withAddrHigh (withAddrHigh a v) v = withAddrHigh a v :=
  mask_or_idempotent ..

/-- An increment that registers can set is not zero (41_register_writes R147). -/
theorem increment_ne_zero {inc : BitVec 8} (h : inc = 1#8 ∨ inc = 32#8 ∨ inc = 128#8) : inc ≠ 0#8 := by
  rcases h with rfl | rfl | rfl <;> decide

/-- A nonzero increment, being below 2^15, moves the address even where the sum wraps (D9). -/
theorem incrementedAddr_ne (a : VramAddr) {inc : BitVec 8} (h : inc ≠ 0#8) : incrementedAddr a inc ≠ a := by
  intro he
  have hz : inc.setWidth 15 = 0#15 := by simpa [incrementedAddr] using he
  apply h
  bv_omega

theorem cgPtr_toNat (v : Byte) : (cgPtr v).toNat = 2 * v.toNat := by
  unfold cgPtr
  rw [BitVec.toNat_shiftLeft, BitVec.toNat_setWidth, Nat.shiftLeft_eq]
  omega

/-! ### Reads of CGRAM -/

@[simp] theorem State.cgRead_quiet (s : State) (a : Nat) : s.quiet.cgRead a = s.cgRead a :=
  State.cgRead_congr rfl rfl a

@[simp] theorem State.cgRead_stepCgramAddress (s : State) (a : Nat) : s.stepCgramAddress.cgRead a = s.cgRead a :=
  State.cgRead_congr rfl rfl a

/-- The byte at the lower offset is bits 7:0 of the colour (20_memory R58). -/
theorem State.cgRead16_toNat (s : State) (a : Nat) :
    (s.cgRead16 a).toNat = (s.cgRead a).toNat + 256 * (s.cgRead (a + 1)).toNat := by
  have hlo : (s.cgRead a).toNat < 2 ^ 8 := (s.cgRead a).isLt
  unfold State.cgRead16
  rw [BitVec.toNat_append, ← Nat.shiftLeft_add_eq_or_of_lt hlo, Nat.shiftLeft_eq]
  omega

/-! ### The ports -/

/-- What VDATAL does to the address (41_register_writes R150). -/
theorem exec_vdatal_vramAddress {v : Byte} {s t : State} (h : exec (.vdatal v) s = .next t) :
    t.vramAddress = if s.incrementOnHighByteWrite then s.vramAddress
      else incrementedAddr s.vramAddress s.vramIncrement := by
  cases h
  cases hf : s.incrementOnHighByteWrite <;> simp

/-- What VDATAH does to the address (41_register_writes R151). -/
theorem exec_vdatah_vramAddress {v : Byte} {s t : State} (h : exec (.vdatah v) s = .next t) :
    t.vramAddress = if s.incrementOnHighByteWrite then incrementedAddr s.vramAddress s.vramIncrement
      else s.vramAddress := by
  cases h; rfl

/-- CGADDR points at the low byte of the numbered entry (41_register_writes R152). -/
theorem exec_cgaddr_cgramAddress {n : Byte} {s t : State} (h : exec (.cgaddr n) s = .next t) :
    t.cgramAddress.toNat = 2 * n.toNat := by
  cases h
  exact cgPtr_toNat n

/-- CGDATA always moves its pointer (41_register_writes R153). -/
theorem exec_cgdata_cgramAddress {v : Byte} {s t : State} (h : exec (.cgdata v) s = .next t) :
    t.cgramAddress = s.cgramAddress + 1#9 := by
  cases h; rfl

/-- CGDATA stores its byte at the pointer and keeps every other byte of CGRAM (41_register_writes R153). -/
theorem exec_cgdata_cgRead {v : Byte} {s t : State} (h : exec (.cgdata v) s = .next t) (a : Nat) :
    t.cgRead a = if a % 512 = s.cgramAddress.toNat then v else s.cgRead a := by
  cases h
  have hp : s.cgramAddress.toNat % 512 = s.cgramAddress.toNat := Nat.mod_eq_of_lt s.cgramAddress.isLt
  rw [State.cgRead_stepCgramAddress, State.cgRead_cgWrite, hp, State.cgRead_quiet]

/-! ### Idempotent accesses -/

/-- The READs are the three rows of 42_register_reads R171 to R173. -/
theorem isRead_iff {i : Instr} : isRead i = true ↔ i = .nmistat ∨ i = .hvstat ∨ ∃ a, i = .readOther a := by
  cases i <;> simp [isRead, Instr.kind]

/-- A READ changes the outputs only, and its byte does not depend on them (42_register_reads R170). -/
theorem exec_read_idempotent {i : Instr} {s t : State} (hi : isRead i = true) (h : exec i s = .next t) :
    t = { s with out := t.out } ∧ exec i t = .next t := by
  obtain rfl | rfl | ⟨a, rfl⟩ := isRead_iff.mp hi <;> cases h <;> exact ⟨rfl, rfl⟩

/-- A second WRITE of the same byte to no data port finds its fields already set (20_memory R66). Only the two
address halves keep bits of the field that they write. -/
theorem exec_registerWrite_idempotent {i : Instr} {s t : State} (hw : isWrite i = true) (hd : isDataPort i = false)
    (h : exec i s = .next t) : exec i t = .next t := by
  cases i
  case vdatal | vdatah | cgdata => cases hd
  case nmistat | hvstat | readOther | tick | reset => cases hw
  case vaddrl v =>
    cases h
    simp only [exec, execVaddrl, State.quiet, withAddrLow_withAddrLow]
  case vaddrh v =>
    cases h
    simp only [exec, execVaddrh, State.quiet, withAddrHigh_withAddrHigh]
  all_goals (cases h; rfl)

/-- Settles O33: the READs and the register writes by cases on the operation, the data ports by the move of their
address. -/
theorem idempotentAndNotIdempotentAccesses : Obligations.IdempotentAndNotIdempotentAccesses := by
  unfold Obligations.IdempotentAndNotIdempotentAccesses
  refine ⟨fun i s t => exec_read_idempotent, fun i s t => exec_registerWrite_idempotent, fun v s t h => ?_,
    fun v s t hinc => ?_⟩
  · rw [exec_cgdata_cgramAddress h]
    simp
  · have hmove := incrementedAddr_ne s.vramAddress (increment_ne_zero hinc)
    refine ⟨fun hf h => ?_, fun hf h => ?_⟩
    · rw [exec_vdatal_vramAddress h, hf]
      exact hmove
    · rw [exec_vdatah_vramAddress h, hf]
      exact hmove

/-! ### Colours through the palette port -/

theorem runAll_cons {i : Instr} {is : List Instr} {s t : State} (h : exec i s = .next t) :
    runAll (i :: is) s = runAll is t := by
  rw [runAll, h]

/-- Two palette writes at an even pointer store the low byte there and the high byte after it. -/
theorem cgcol_cgRead {s t u : State} {lo hi : Byte} {n : Nat} (hp : s.cgramAddress.toNat = 2 * n)
    (hlo : exec (.cgdata lo) s = .next t) (hhi : exec (.cgdata hi) t = .next u) :
    u.cgRead (2 * n) = lo ∧ u.cgRead (2 * n + 1) = hi := by
  have hn : 2 * n < 512 := hp ▸ s.cgramAddress.isLt
  have hp1 : t.cgramAddress.toNat = 2 * n + 1 := by
    rw [exec_cgdata_cgramAddress hlo]
    bv_omega
  constructor
  · rw [exec_cgdata_cgRead hhi, if_neg (by omega), exec_cgdata_cgRead hlo, if_pos (by omega)]
  · rw [exec_cgdata_cgRead hhi, if_pos (by omega)]

/-- Settles O34: the composition of the two bytes, and the three writes of a colour one after another. -/
theorem coloursAreLittleEndian : Obligations.ColoursAreLittleEndian := by
  unfold Obligations.ColoursAreLittleEndian
  refine ⟨State.cgRead16_toNat, fun s n lo hi => ?_⟩
  obtain ⟨t, ht⟩ : ∃ t, exec (.cgaddr n) s = .next t := ⟨_, rfl⟩
  obtain ⟨u, hu⟩ : ∃ u, exec (.cgdata lo) t = .next u := ⟨_, rfl⟩
  obtain ⟨w, hw⟩ : ∃ w, exec (.cgdata hi) u = .next w := ⟨_, rfl⟩
  obtain ⟨hl, hh⟩ := cgcol_cgRead (exec_cgaddr_cgramAddress ht) hu hw
  have hrun : runAll (.cgaddr n :: cgcol hi lo) s = .next w := by
    rw [runAll_cons ht, cgcol, runAll_cons hu, runAll_cons hw, runAll]
  exact ⟨w, hrun, by rw [State.cgRead16_toNat, hl, hh]⟩

end Sys2Proof.Machine
end

section
/-! PROOFS. TICK (40_timing_controller): the positions of a scanline (R121), its end, and its length in TICKs (R122). -/

namespace Sys2Proof.Machine

/-! ### One TICK -/

theorem exec_tick (s : State) : exec .tick s = .next s.advance := rfl

/-- `cycle` after a TICK as a number: within the range of R122 the 9-bit sum does not wrap. -/
theorem State.advance_cycle_toNat {s : State} (hc : s.cycle.toNat ≤ 340) :
    s.advance.cycle.toNat = if s.cycle.toNat = 340 then 0 else s.cycle.toNat + 1 := by
  rw [State.advance_cycle]
  split
  · rfl
  · bv_omega

/-- The TICK within a scanline, whole (R121). -/
theorem State.advance_within_eq {s : State} (hc : s.cycle.toNat < 340) :
    s.advance = { s with cycle := BitVec.ofNat 9 (s.cycle.toNat + 1), out := ⟨[], none⟩ } := by
  have hnext : s.cycle + 1#9 = BitVec.ofNat 9 (s.cycle.toNat + 1) := by bv_omega
  rw [State.advance_within s (Nat.ne_of_lt hc), ← hnext]
  rfl

/-- Settles O9: the TICK within a scanline, and the two branches of `cycle` after any TICK. -/
theorem tickWithinScanline : Obligations.TickWithinScanline := by
  unfold Obligations.TickWithinScanline
  refine ⟨fun s hc => by rw [exec_tick, State.advance_within_eq hc], fun s t hc h => ?_⟩
  rw [exec_tick_eq h, State.advance_cycle_toNat hc]
  split
  case isTrue hlast => exact .inr ⟨hlast, rfl⟩
  case isFalse => exact .inl rfl

/-! ### The end of a scanline -/

/-- The raster after the TICK at the end of a scanline that is not the frame's last (R122). -/
theorem State.advance_endsScanline {s : State} (hc : s.cycle.toNat = 340) (hs : s.scanline.toNat < 259) :
    s.advance.cycle = 0#9 ∧ s.advance.scanline.toNat = s.scanline.toNat + 1 := by
  refine ⟨by rw [State.advance_cycle, if_pos hc], ?_⟩
  rw [State.advance_scanline, if_pos hc, if_neg (by omega), Nat.mod_eq_of_lt (by omega)]

/-- No operation stores 341: a TICK goes from 340 to 0, RESET leaves 0, and the others leave `cycle` alone (R122). -/
theorem exec_cycle_le {i : Instr} {s t : State} (hc : s.cycle.toNat ≤ 340) (h : exec i s = .next t) :
    t.cycle.toNat ≤ 340 := by
  by_cases hi : i = .tick
  · subst hi
    rw [exec_tick_eq h, State.advance_cycle_toNat hc]
    split <;> omega
  by_cases hr : i = .reset
  · subst hr
    cases h
    exact Nat.zero_le 340
  · rw [(exec_sameFrameSide hi hr h).cycle]
    exact hc

/-- The TICKs left in a scanline, counted with the one at its end, lead to the start of the next one. -/
theorem runAll_tickN_restOfScanline (n : Nat) {s : State} (hc : s.cycle.toNat + n = 340)
    (hs : s.scanline.toNat < 259) :
    ∃ t, runAll (tickN (n + 1)) s = .next t ∧ t.cycle = 0#9 ∧ t.scanline.toNat = s.scanline.toNat + 1 := by
  induction n generalizing s with
  | zero => exact ⟨s.advance, rfl, State.advance_endsScanline hc hs⟩
  | succ n ih =>
    have hcycle : s.advance.cycle.toNat = s.cycle.toNat + 1 := by
      rw [State.advance_cycle_toNat (by omega), if_neg (by omega)]
    have hline : s.advance.scanline.toNat = s.scanline.toNat := by
      rw [State.advance_scanline, if_neg (by omega)]
    rw [runAll_tickN_succ, ← hline]
    exact ih (by omega) (by omega)

/-- Settles O10: the end of a scanline by the cases of a TICK, the bound on `cycle` by cases on the operation, the
341 TICKs by induction on those left in the scanline. -/
theorem tickEndsScanline : Obligations.TickEndsScanline := by
  unfold Obligations.TickEndsScanline
  refine ⟨fun s hc hs => ?_, fun s hc => ⟨s.advance, exec_tick s, ?_⟩, fun i s t => exec_cycle_le, fun s hc hs => ?_⟩
  · obtain ⟨hcycle, hline⟩ := State.advance_endsScanline hc hs
    refine ⟨s.advance, exec_tick s, hcycle, hline, fun hv => ?_⟩
    rw [State.advance_line s hc hv (Nat.ne_of_lt hs)]
    rfl
  · show s.advance.cycle = 340#9
    apply BitVec.eq_of_toNat_eq
    rw [State.advance_cycle_toNat (by omega), hc]
    rfl
  · exact runAll_tickN_restOfScanline 340 (by rw [hc]; rfl) hs

end Sys2Proof.Machine
end

section
/-! PROOFS. Register writes (41_register_writes): the two halves of the VRAM address (R148, R149), the palette pointer
(R152) and the interrupt enable (R154). First the command words and the fields, then the statements. -/

namespace Sys2Proof.Machine

/-! ### Command words -/

/-- The byte of a register row's word, put into the row's pattern (30_encoding R82). -/
theorem packWord_zero_or (k : BitVec 2) (a : BusAddr) (v : Byte) :
    packWord k a 0#8 ||| v.setWidth 26 = packWord k a v := by
  apply BitVec.eq_of_getLsbD_eq
  intro i hi
  rw [BitVec.getLsbD_or, BitVec.getLsbD_setWidth, packWord_getLsbD, packWord_getLsbD]
  by_cases h8 : i < 8
  · simp [h8, hi]
  · simp [h8, BitVec.getLsbD_of_ge v i (Nat.le_of_not_lt h8)]

/-- A word of a WRITE row decodes by its address, with its byte (30_encoding R83). -/
theorem decode_writeRow (a : BusAddr) (v : Byte) :
    decode (packWord 2#2 a 0#8 ||| v.setWidth 26) = decodeWrite a v := by
  rw [packWord_zero_or, decode_writeWord]

/-! ### The halves of the VRAM address -/

/-- Bits 7:0 are the byte's, bits 14:8 are kept (R148). -/
theorem withAddrLow_getLsbD (a : VramAddr) (v : Byte) {i : Nat} (hi : i < 15) :
    (withAddrLow a v).getLsbD i = if i < 8 then v.getLsbD i else a.getLsbD i := by
  have hmask : ∀ i < 15, (0x7F00#15).getLsbD i = decide (8 ≤ i) := by decide
  rw [withAddrLow, BitVec.getLsbD_or, BitVec.getLsbD_and, BitVec.getLsbD_setWidth, hmask i hi]
  by_cases h8 : i < 8
  · simp [h8, hi]
  · simp [h8, Nat.le_of_not_lt h8]

/-- Bits 7:0 are kept, bits 14:8 are bits 6:0 of the byte (R149). -/
theorem withAddrHigh_getLsbD (a : VramAddr) (v : Byte) {i : Nat} (hi : i < 15) :
    (withAddrHigh a v).getLsbD i = if i < 8 then a.getLsbD i else v.getLsbD (i - 8) := by
  have hmask : ∀ i < 15, (0x00FF#15).getLsbD i = decide (i < 8) := by decide
  have hfield : i - 8 < 7 := by omega
  rw [withAddrHigh, field, BitVec.getLsbD_or, BitVec.getLsbD_and, hmask i hi]
  by_cases h8 : i < 8
  · simp [h8]
  · simp [h8, hi, hfield]

/-- The low half replaced, as a number (R148). -/
theorem withAddrLow_eq (a : VramAddr) (v : Byte) :
    withAddrLow a v = BitVec.ofNat 15 (a.toNat / 256 * 256 + v.toNat) := by
  apply BitVec.eq_of_getLsbD_eq
  intro i hi
  rw [withAddrLow_getLsbD a v hi, BitVec.getLsbD_ofNat, Nat.mul_comm, show 256 = 2 ^ 8 from rfl,
    Nat.testBit_two_pow_mul_add _ v.isLt, Nat.testBit_div_two_pow,
    BitVec.testBit_toNat, BitVec.testBit_toNat]
  by_cases h8 : i < 8
  · simp [h8, hi]
  · simp [h8, hi, Nat.sub_add_cancel (Nat.le_of_not_lt h8)]

/-- The high half replaced, as a number (R149). -/
theorem withAddrHigh_eq (a : VramAddr) (v : Byte) :
    withAddrHigh a v = BitVec.ofNat 15 (v.toNat % 128 * 256 + a.toNat % 256) := by
  have hlow : a.toNat % 2 ^ 8 < 2 ^ 8 := Nat.mod_lt _ (by decide)
  apply BitVec.eq_of_getLsbD_eq
  intro i hi
  rw [withAddrHigh_getLsbD a v hi, BitVec.getLsbD_ofNat, Nat.mul_comm, show 256 = 2 ^ 8 from rfl,
    show 128 = 2 ^ 7 from rfl, Nat.testBit_two_pow_mul_add _ hlow, Nat.testBit_mod_two_pow, Nat.testBit_mod_two_pow,
    BitVec.testBit_toNat, BitVec.testBit_toNat]
  by_cases h8 : i < 8
  · simp [h8, hi]
  · have hfield : i - 8 < 7 := by omega
    simp [h8, hi, hfield]

/-- Bit 7 of the byte has no place in the 15-bit address (R149). -/
theorem withAddrHigh_xor_bit7 (a : VramAddr) (v : Byte) : withAddrHigh a (v ^^^ 0x80#8) = withAddrHigh a v := by
  have hbits : ∀ j < 7, (0x80#8).getLsbD j = false := by decide
  apply BitVec.eq_of_getLsbD_eq
  intro i hi
  rw [withAddrHigh_getLsbD _ _ hi, withAddrHigh_getLsbD _ _ hi, BitVec.getLsbD_xor, hbits (i - 8) (by omega),
    Bool.xor_false]

/-- The halves do not overlap, so either may be replaced first (R149). -/
theorem withAddrHigh_withAddrLow (a : VramAddr) (v w : Byte) :
    withAddrHigh (withAddrLow a w) v = withAddrLow (withAddrHigh a v) w := by
  apply BitVec.eq_of_getLsbD_eq
  intro i hi
  rw [withAddrHigh_getLsbD _ _ hi, withAddrLow_getLsbD _ _ hi, withAddrLow_getLsbD _ _ hi,
    withAddrHigh_getLsbD _ _ hi]
  split <;> rfl

/-- VADDRL, whole (R148). -/
theorem exec_vaddrl (v : Byte) (s : State) :
    exec (.vaddrl v) s = .next { s with vramAddress := withAddrLow s.vramAddress v, out := ⟨[], none⟩ } := rfl

/-- VADDRH, whole (R149). -/
theorem exec_vaddrh (v : Byte) (s : State) :
    exec (.vaddrh v) s = .next { s with vramAddress := withAddrHigh s.vramAddress v, out := ⟨[], none⟩ } := rfl

/-- Settles O23: the word by its row, the write by the low half as a number. -/
theorem vaddrlWrite : Obligations.VaddrlWrite := by
  unfold Obligations.VaddrlWrite
  exact fun v s => ⟨decode_writeRow 0x2116#16 v, by rw [exec_vaddrl, withAddrLow_eq]⟩

/-- Settles O24: the word by its row, the write by the high half as a number, the dropped bit and the order by the bits
of the address. -/
theorem vaddrhWrite : Obligations.VaddrhWrite := by
  unfold Obligations.VaddrhWrite
  refine fun v w s => ⟨decode_writeRow 0x2117#16 v, ?_, ?_, ?_⟩
  · rw [exec_vaddrh, withAddrHigh_eq]
  · rw [exec_vaddrh, exec_vaddrh, withAddrHigh_xor_bit7]
  · rw [runAll_cons (exec_vaddrl w s), runAll_cons (exec_vaddrh v _), runAll_cons (exec_vaddrh v s),
      runAll_cons (exec_vaddrl w _), withAddrHigh_withAddrLow]

/-! ### The palette pointer -/

/-- Twice a byte fits the 9-bit pointer (R152). -/
theorem cgPtr_eq (v : Byte) : cgPtr v = BitVec.ofNat 9 (2 * v.toNat) := by
  rw [← cgPtr_toNat, BitVec.ofNat_toNat, BitVec.setWidth_eq]

/-- CGADDR, whole (R152). -/
theorem exec_cgaddr (v : Byte) (s : State) :
    exec (.cgaddr v) s = .next { s with cgramAddress := cgPtr v, out := ⟨[], none⟩ } := rfl

/-- Settles O28: the word by its row, the write by the pointer as a number. -/
theorem cgaddrWrite : Obligations.CgaddrWrite := by
  unfold Obligations.CgaddrWrite
  exact fun v s => ⟨decode_writeRow 0x2121#16 v, by rw [exec_cgaddr, cgPtr_eq]⟩

/-! ### The interrupt enable -/

/-- Bit 7 is set in the bytes from 128 on (R154). -/
theorem nmiEn_eq (v : Byte) : nmiEn v = decide (128 ≤ v.toNat) :=
  BitVec.msb_eq_decide v

/-- NMIEN, whole (R154). -/
theorem exec_nmien (v : Byte) (s : State) :
    exec (.nmien v) s = .next { s with nmiEnable := nmiEn v, out := ⟨[], none⟩ } := rfl

/-- A TICK that does not start vblank puts nothing out (40_timing_controller R121, R122, R124). -/
theorem State.advance_away_out {s : State} (h : ¬s.atVblankEdge = true) : s.advance.out = ⟨[], none⟩ := by
  rw [State.advance_away s h]

/-- The enable is sampled by the TICK that starts vblank alone: no WRITE and no RESET puts anything out, and the byte
of a READ is made of the flag and the raster (R154, 42_register_reads R171, R172). -/
theorem exec_out_of_nmiEnable {i : Instr} {s t t' : State} {b : Bool} (hi : ¬(i = .tick ∧ s.atVblankEdge = true))
    (h : exec i s = .next t) (h' : exec i { s with nmiEnable := b } = .next t') : t'.out = t.out := by
  cases i
  case tick =>
    have hs : ¬s.atVblankEdge = true := fun he => hi ⟨rfl, he⟩
    have hs' : ¬State.atVblankEdge { s with nmiEnable := b } = true := hs
    rw [exec_tick_eq h, exec_tick_eq h', State.advance_away_out hs, State.advance_away_out hs']
  all_goals (cases h; cases h'; rfl)

/-- Settles O30: the word by its row, the write by bit 7 as a number, the outputs by cases on the operation. -/
theorem nmienWrite : Obligations.NmienWrite := by
  unfold Obligations.NmienWrite
  exact ⟨fun v s => ⟨decode_writeRow 0x4200#16 v, by rw [exec_nmien, nmiEn_eq]⟩,
    fun i s t t' b => exec_out_of_nmiEnable⟩

end Sys2Proof.Machine
end

section
/-! PROOFS. Register reads (42_register_reads): the status byte of NMISTAT (R171). -/

namespace Sys2Proof.Machine

/-- A word of a READ row decodes by its address, whatever the byte (30_encoding R82, R83). -/
theorem decode_readRow (a : BusAddr) (v : Byte) :
    decode (packWord 1#2 a 0#8 ||| v.setWidth 26) = decodeRead a := by
  rw [packWord_zero_or, decode_readWord]

/-- NMISTAT, whole (R171). -/
theorem exec_nmistat (s : State) :
    exec .nmistat s = .next { s with out := ⟨[], some (nmiStatByte s.nmiFlag)⟩ } := rfl

/-- Bit 7 is the flag (R171). -/
@[simp] theorem nmiStatByte_getLsbD_seven (f : Bool) : (nmiStatByte f).getLsbD 7 = f := by
  rw [nmiStatByte, BitVec.getLsbD_append, if_neg (by decide)]
  exact BitVec.getLsbD_ofBool f 0

/-- Bits 6:0 are the open constant (R171, log 7). -/
@[simp] theorem nmiStatByte_low (f : Bool) : (nmiStatByte f).extractLsb' 0 7 = Config.openBus4210 :=
  BitVec.extractLsb'_append_eq_right

/-- As a number the byte is from 128 on exactly when the flag is on, the open bits being below bit 7. -/
theorem nmiStatByte_ge_iff (f : Bool) : 128 ≤ (nmiStatByte f).toNat ↔ f = true := by
  have hmsb : decide (128 ≤ (nmiStatByte f).toNat) = f :=
    (BitVec.msb_eq_decide (nmiStatByte f)).symm.trans (nmiStatByte_getLsbD_seven f)
  rw [← decide_eq_true_iff (p := 128 ≤ _), hmsb]

/-- Settles O36: the words by their row, the byte by its two fields, the scanlines by the invariant's clause on the
flag. -/
theorem nmistatRead : Obligations.NmistatRead := by
  unfold Obligations.NmistatRead
  refine ⟨decode_readRow 0x4210#16, fun s => ⟨nmiStatByte s.nmiFlag, exec_nmistat s, nmiStatByte_getLsbD_seven _,
    nmiStatByte_low _, fun hinv => ?_⟩⟩
  rw [nmiStatByte_ge_iff, hinv.nmiFlag_iff, decide_eq_true_iff]

end Sys2Proof.Machine
end

section
/-! PROOFS. Exceptions and the interrupt (60_exceptions): no operation faults (R210), the flag (R213), and the TICKs that
send `Nmi` (R215). -/

namespace Sys2Proof.Machine

/-! ### No faults -/

/-- Every arm of `exec` ends in a next state (R210). -/
theorem exec_completes (i : Instr) (s : State) : ∃ t, exec i s = .next t := by
  cases i <;> exact ⟨_, rfl⟩

/-- Settles O8: by cases on the operation. -/
theorem everyOperationCompletes : Obligations.EveryOperationCompletes := by
  unfold Obligations.EveryOperationCompletes
  exact exec_completes

/-! ### The events of an operation -/

/-- The TICK that starts vblank sends its two frame events and, when enabled, `Nmi`; no other operation sends anything
(R215, 44_frame_dispatch R200 to R205). -/
theorem exec_events {i : Instr} {s t : State} (h : exec i s = .next t) :
    t.out.events =
      if i = .tick ∧ s.atVblankEdge = true then
        [.frameReady, .frameHandoff s.active s.frameCount] ++ (if s.nmiEnable then [.nmi] else [])
      else [] := by
  by_cases hi : i = .tick
  · subst hi
    rw [exec_tick_eq h]
    by_cases he : s.atVblankEdge = true
    · rw [if_pos ⟨rfl, he⟩, State.advance_edge s he]
    · rw [if_neg (fun hte => he hte.2), State.advance_away_out he]
  rw [if_neg (fun hte => hi hte.1)]
  by_cases hr : i = .reset
  · subst hr
    cases h
    rfl
  · exact (exec_sameFrameSide hi hr h).events

/-- `Nmi` is among the events exactly at the start of vblank with the enable 1 (R215). -/
theorem nmi_mem_exec_events_iff {i : Instr} {s t : State} (h : exec i s = .next t) :
    OutEvent.nmi ∈ t.out.events ↔
      i = .tick ∧ s.cycle.toNat = 340 ∧ s.scanline.toNat = 224 ∧ s.nmiEnable = true := by
  rw [exec_events h, ← and_assoc (a := s.cycle.toNat = 340), ← State.atVblankEdge_iff, ← and_assoc]
  split
  case isTrue he => cases hn : s.nmiEnable <;> simp [he]
  case isFalse he => simp [he]

/-- No operation sends `Nmi` twice (R215). -/
theorem count_nmi_exec_events_le {i : Instr} {s t : State} (h : exec i s = .next t) :
    t.out.events.count .nmi ≤ 1 := by
  rw [exec_events h]
  split
  case isTrue => cases s.nmiEnable <;> simp
  case isFalse => exact Nat.zero_le 1

/-! ### The flag -/

/-- The flag after a TICK (R213). -/
theorem State.advance_nmiFlag (s : State) :
    s.advance.nmiFlag =
      if s.atVblankEdge = true then true else if s.atFrameWrap = true then false else s.nmiFlag := by
  by_cases he : s.atVblankEdge = true
  · rw [if_pos he, State.advance_edge s he]
  · rw [if_neg he, State.advance_away s he]

/-- Settles O16: the flag by cases on the operation, NMISTAT by its whole next state, the events by what every operation
sends, which does not name the flag. -/
theorem nmiFlagFollowsTheRaster : Obligations.NmiFlagFollowsTheRaster := by
  unfold Obligations.NmiFlagFollowsTheRaster
  refine ⟨fun i s t hr h => ?_, fun s => ⟨_, _, exec_nmistat s, rfl, nmiStatByte_getLsbD_seven _⟩,
    fun i s t t' b h h' => ?_⟩
  · by_cases hi : i = .tick
    · subst hi
      simp only [exec_tick_eq h, State.advance_nmiFlag, true_and]
    · rw [if_neg (fun ht => hi ht.1), if_neg (fun ht => hi ht.1), (exec_sameFrameSide hi hr h).nmiFlag]
  · rw [exec_events h, exec_events h']
    rfl

/-! ### The TICKs of a run -/

/-- The raster is where every run from reset keeps it (10_state R41 (a), (b)). -/
def State.RasterInRange (s : State) : Prop := s.cycle.toNat ≤ 340 ∧ s.scanline.toNat < 260

theorem State.framePosition_eq (s : State) : s.framePosition = s.scanline.toNat * 341 + s.cycle.toNat := rfl

/-- A TICK moves the raster on by one position of the frame and keeps it in range (40_timing_controller R128). -/
theorem State.advance_framePosition {s : State} (hs : s.RasterInRange) :
    s.advance.RasterInRange ∧ s.advance.framePosition = (s.framePosition + 1) % 88660 := by
  obtain ⟨hc, hl⟩ := hs
  rw [State.RasterInRange, State.framePosition_eq, State.framePosition_eq, State.advance_cycle_toNat hc,
    State.advance_scanline]
  split_ifs <;> omega

/-- An operation other than RESET moves the raster by the TICKs in it, none or one. -/
theorem exec_framePosition {i : Instr} {s t : State} (hr : i ≠ .reset) (hs : s.RasterInRange)
    (h : exec i s = .next t) :
    t.RasterInRange ∧ t.framePosition = (s.framePosition + countTicks [i]) % 88660 := by
  by_cases hi : i = .tick
  · subst hi
    rw [exec_tick_eq h]
    exact State.advance_framePosition hs
  · have hsame := exec_sameFrameSide hi hr h
    have hcount : countTicks [i] = 0 := List.count_singleton.trans (if_neg (by simpa using hi))
    obtain ⟨hc, hl⟩ := hs
    rw [State.RasterInRange, State.framePosition_eq, State.framePosition_eq, hsame.cycle, hsame.scanline, hcount]
    omega

/-- A run without RESET moves the raster by the number of its TICKs (40_timing_controller R128). -/
theorem runAll_framePosition {is : List Instr} {s t : State} (hr : Instr.reset ∉ is) (hs : s.RasterInRange)
    (h : runAll is s = .next t) :
    t.RasterInRange ∧ t.framePosition = (s.framePosition + countTicks is) % 88660 := by
  induction is generalizing s with
  | nil =>
    cases h
    obtain ⟨hc, hl⟩ := hs
    have hcount : countTicks [] = 0 := List.count_nil
    rw [hcount, State.framePosition_eq]
    exact ⟨⟨hc, hl⟩, by omega⟩
  | cons i is ih =>
    obtain ⟨hi, his⟩ := List.ne_and_not_mem_of_not_mem_cons hr
    obtain ⟨u, hu⟩ := exec_completes i s
    obtain ⟨hrange, hpos⟩ := exec_framePosition (Ne.symm hi) hs hu
    rw [runAll_cons hu] at h
    obtain ⟨hrange', hpos'⟩ := ih his hrange h
    have hcount : countTicks (i :: is) = countTicks [i] + countTicks is := List.count_append (l₁ := [i])
    exact ⟨hrange', by omega⟩

/-- The position from which a TICK starts vblank: the last of scanline 224. -/
theorem State.atVblankEdge_iff_framePosition {s : State} (hs : s.RasterInRange) :
    s.atVblankEdge = true ↔ s.framePosition = 76724 := by
  obtain ⟨hc, hl⟩ := hs
  rw [State.atVblankEdge_iff, State.framePosition_eq]
  omega

/-- Settles O17: the pulse by the events of an operation, the TICK numbers by the raster position after a run. -/
theorem nmiIsSentExactlyAtVblankStart : Obligations.NmiIsSentExactlyAtVblankStart := by
  unfold Obligations.NmiIsSentExactlyAtVblankStart
  refine ⟨fun i s t h => ⟨nmi_mem_exec_events_iff h, count_nmi_exec_events_le h⟩, fun is t hr h => ?_⟩
  have hreset : State.reset.RasterInRange := ⟨by decide, by decide⟩
  obtain ⟨hrange, hpos⟩ := runAll_framePosition hr hreset h
  have hzero : State.reset.framePosition = 0 := rfl
  rw [State.atVblankEdge_iff_framePosition hrange, hpos, hzero, Nat.zero_add]
  exact ⟨fun hmod => ⟨countTicks is / 88660, by omega⟩, fun ⟨k, hk⟩ => by omega⟩

end Sys2Proof.Machine
end

section
/-! PROOFS. Command words (30_encoding): the decoder against the encoder (R82) and against the rows of the opcode table
(R83). -/

namespace Sys2Proof

/-! ### Decoder and encoder -/

/-- Decoding what was encoded (30_encoding R83): a register row by its address, a default row because its address is no
register's. -/
theorem decode_encode {i : Instr} (hi : i.wellFormed = true) : decode (encode i) = i := by
  cases i
  case tick => exact decode_tickWord ..
  case reset => exact decode_resetWord ..
  case nmistat | hvstat => exact decode_readWord ..
  case readOther a =>
    rw [encode, decode_readWord]
    exact decodeRead_other (by simpa [Instr.wellFormed] using hi)
  case writeOther a v =>
    rw [encode, decode_writeWord]
    exact decodeWrite_other v (by simpa [Instr.wellFormed] using hi)
  all_goals exact decode_writeWord ..

/-- Settles O2: by cases on the operation. -/
theorem decodeAfterEncode : Obligations.DecodeAfterEncode := by
  unfold Obligations.DecodeAfterEncode
  exact fun i => decode_encode

/-- A WRITE keeps its address and its byte. -/
theorem encode_decodeWrite (a : BusAddr) (v : Byte) : encode (decodeWrite a v) = packWord 2#2 a v :=
  decodeWrite_cases (fun a i => encode i = packWord 2#2 a v) rfl rfl rfl rfl rfl rfl rfl rfl rfl rfl rfl rfl rfl rfl
    (fun _ _ => rfl) a

/-- A READ keeps its address. -/
theorem encode_decodeRead (a : BusAddr) : encode (decodeRead a) = packWord 1#2 a 0#8 :=
  decodeRead_cases (fun a i => encode i = packWord 1#2 a 0#8) rfl rfl (fun _ _ => rfl) a

/-- To prove something of every command word, prove it of the words of each kind (30_encoding R82). -/
theorem commandWord_cases {P : CommandWord → Prop} (tick : ∀ a v, P (packWord 0#2 a v))
    (read : ∀ a v, P (packWord 1#2 a v)) (write : ∀ a v, P (packWord 2#2 a v))
    (reset : ∀ a v, P (packWord 3#2 a v)) (w : CommandWord) : P w := by
  rw [← packWord_fields w]
  rcases Machine.kind_cases (wordKind w) with hk | hk | hk | hk <;> rw [hk]
  · exact tick _ _
  · exact read _ _
  · exact write _ _
  · exact reset _ _

/-- Settles O4: by the kind of the word. -/
theorem encodeAfterDecode : Obligations.EncodeAfterDecode := by
  unfold Obligations.EncodeAfterDecode
  refine commandWord_cases (fun a v => ?_) (fun a v => ?_) (fun a v => ?_) (fun a v => ?_)
  · simp [encode]
  · simp [encode_decodeRead]
  · simp [encode_decodeWrite]
  · simp [encode]

/-- Settles O1: each word is decoded by computation. -/
theorem sampleWordsDecode : Obligations.SampleWordsDecode := by
  unfold Obligations.SampleWordsDecode
  decide

/-! ### The rows of the opcode table -/

theorem wellFormed_decodeWrite (a : BusAddr) (v : Byte) : (decodeWrite a v).wellFormed = true :=
  decodeWrite_cases (fun _ i => i.wellFormed = true) rfl rfl rfl rfl rfl rfl rfl rfl rfl rfl rfl rfl rfl rfl
    (fun a ha => by simpa [Instr.wellFormed] using ha) a

theorem wellFormed_decodeRead (a : BusAddr) : (decodeRead a).wellFormed = true :=
  decodeRead_cases (fun _ i => i.wellFormed = true) rfl rfl (fun a ha => by simpa [Instr.wellFormed] using ha) a

/-- The decoder yields well-formed operations only (30_encoding R83). -/
theorem wellFormed_decode : ∀ w : CommandWord, (decode w).wellFormed = true :=
  commandWord_cases (fun a v => by rw [decode_tickWord]; rfl)
    (fun a v => by rw [decode_readWord]; exact wellFormed_decodeRead a)
    (fun a v => by rw [decode_writeWord]; exact wellFormed_decodeWrite a v)
    (fun a v => by rw [decode_resetWord]; rfl)

/-- Rows of one mask and of different patterns never apply to the same word (30_encoding R82). -/
theorem OpcodeRow.eq_of_applies {rows : List OpcodeRow} {m : CommandWord} (hm : ∀ q ∈ rows, q.mask = m)
    (hp : ∀ q ∈ rows, ∀ r ∈ rows, q.pattern = r.pattern → q = r) {q r : OpcodeRow} (hq : q ∈ rows) (hr : r ∈ rows)
    {w : CommandWord} (hqw : q.applies w = true) (hrw : r.applies w = true) : q = r := by
  refine hp q hq r hr ?_
  rw [OpcodeRow.applies, beq_iff_eq, hm q hq] at hqw
  rw [OpcodeRow.applies, beq_iff_eq, hm r hr] at hrw
  rw [← hqw, hrw]

/-- At most one register row applies to a word. -/
theorem registerRow_unique {q r : OpcodeRow} (hq : q ∈ registerRows) (hr : r ∈ registerRows) {w : CommandWord}
    (hqw : q.applies w = true) (hrw : r.applies w = true) : q = r :=
  OpcodeRow.eq_of_applies (m := 0x3FFFF00#26) (by decide) (by decide) hq hr hqw hrw

/-- At most one kind row applies to a word. -/
theorem kindRow_unique {q r : OpcodeRow} (hq : q ∈ kindRows) (hr : r ∈ kindRows) {w : CommandWord}
    (hqw : q.applies w = true) (hrw : r.applies w = true) : q = r :=
  OpcodeRow.eq_of_applies (m := 0x3000000#26) (by decide) (by decide) hq hr hqw hrw

/-- The pattern of a register row holds the kind and the address of its register (30_encoding R84). -/
theorem registerRow_fields : ∀ q ∈ registerRows, q.mask = 0x3FFFF00#26 ∧ wordData q.pattern = 0#8 ∧
    (wordKind q.pattern = 1#2 ∧ wordAddr q.pattern ∈ readAddrs ∨
      wordKind q.pattern = 2#2 ∧ wordAddr q.pattern ∈ writeAddrs) := by
  decide

/-- A register row applies to accesses of a register of its direction only. -/
theorem registerRow_applies_register {q : OpcodeRow} (hq : q ∈ registerRows) {k : BitVec 2} {a : BusAddr} {v : Byte}
    (h : q.applies (packWord k a v) = true) : k = 1#2 ∧ a ∈ readAddrs ∨ k = 2#2 ∧ a ∈ writeAddrs := by
  obtain ⟨hmask, hdata, hreg⟩ := registerRow_fields q hq
  have hrow : q = ⟨q.mnemonic, packWord (wordKind q.pattern) (wordAddr q.pattern) 0#8, 0x3FFFF00#26⟩ := by
    rw [← hdata, packWord_fields, ← hmask]
  rw [hrow, registerRow_applies, decide_eq_true_iff] at h
  rwa [h.1, h.2]

/-- The row of the table that an operation's mnemonic names applies to the word, and it is the one that has precedence:
a register row, or a kind row where no register row applies (30_encoding R83). -/
def SelectsRow (w : CommandWord) (i : Instr) : Prop :=
  (∃ r ∈ registerRows, r.mnemonic = i.mnemonic ∧ r.applies w = true) ∨
    (∃ r ∈ kindRows, r.mnemonic = i.mnemonic ∧ r.applies w = true) ∧ ∀ q ∈ registerRows, q.applies w = false

theorem selectsRow_register {k : BitVec 2} {a : BusAddr} {v : Byte} {i : Instr} (m : String)
    (hr : ⟨m, packWord k a 0#8, 0x3FFFF00#26⟩ ∈ registerRows) (hi : i.mnemonic = m) : SelectsRow (packWord k a v) i :=
  .inl ⟨_, hr, hi.symm, by rw [registerRow_applies, decide_eq_true_iff]; exact ⟨rfl, rfl⟩⟩

theorem selectsRow_kind {k : BitVec 2} {a : BusAddr} {v : Byte} {i : Instr} (m : String)
    (hr : ⟨m, packWord k 0#16 0#8, 0x3000000#26⟩ ∈ kindRows) (hi : i.mnemonic = m) (hread : k = 1#2 → a ∉ readAddrs)
    (hwrite : k = 2#2 → a ∉ writeAddrs) : SelectsRow (packWord k a v) i := by
  refine .inr ⟨⟨_, hr, hi.symm, by rw [kindRow_applies, decide_eq_true_iff]⟩, fun q hq => ?_⟩
  rw [Bool.eq_false_iff]
  intro happ
  rcases registerRow_applies_register hq happ with ⟨hk, ha⟩ | ⟨hk, ha⟩
  · exact hread hk ha
  · exact hwrite hk ha

theorem selectsRow_decodeWrite (a : BusAddr) (v : Byte) : SelectsRow (packWord 2#2 a v) (decodeWrite a v) :=
  decodeWrite_cases (fun a i => SelectsRow (packWord 2#2 a v) i)
    (selectsRow_register "TILEMAP0" (by decide) rfl) (selectsRow_register "TILEMAP1" (by decide) rfl)
    (selectsRow_register "TILEMAP2" (by decide) rfl) (selectsRow_register "TILEMAP3" (by decide) rfl)
    (selectsRow_register "CHRBASE01" (by decide) rfl) (selectsRow_register "CHRBASE23" (by decide) rfl)
    (selectsRow_register "VPORTCTRL" (by decide) rfl) (selectsRow_register "VADDRL" (by decide) rfl)
    (selectsRow_register "VADDRH" (by decide) rfl) (selectsRow_register "VDATAL" (by decide) rfl)
    (selectsRow_register "VDATAH" (by decide) rfl) (selectsRow_register "CGADDR" (by decide) rfl)
    (selectsRow_register "CGDATA" (by decide) rfl) (selectsRow_register "NMIEN" (by decide) rfl)
    (fun _ ha => selectsRow_kind "WRITE_OTHER" (by decide) rfl (fun hk => absurd hk (by decide)) (fun _ => ha)) a

theorem selectsRow_decodeRead (a : BusAddr) (v : Byte) : SelectsRow (packWord 1#2 a v) (decodeRead a) :=
  decodeRead_cases (fun a i => SelectsRow (packWord 1#2 a v) i)
    (selectsRow_register "NMISTAT" (by decide) rfl) (selectsRow_register "HVSTAT" (by decide) rfl)
    (fun _ ha => selectsRow_kind "READ_OTHER" (by decide) rfl (fun _ => ha) (fun hk => absurd hk (by decide))) a

theorem selectsRow_decode : ∀ w : CommandWord, SelectsRow w (decode w) := by
  refine commandWord_cases (fun a v => ?_) (fun a v => ?_) (fun a v => ?_) (fun a v => ?_)
  · rw [decode_tickWord]
    exact selectsRow_kind "TICK" (by decide) rfl (fun hk => absurd hk (by decide)) (fun hk => absurd hk (by decide))
  · rw [decode_readWord]
    exact selectsRow_decodeRead a v
  · rw [decode_writeWord]
    exact selectsRow_decodeWrite a v
  · rw [decode_resetWord]
    exact selectsRow_kind "RESET" (by decide) rfl (fun hk => absurd hk (by decide)) (fun hk => absurd hk (by decide))

/-- Settles O3: the row by the decoder's cases, its being the only one because rows of one mask exclude each other. -/
theorem everyWordSelectsOneRow : Obligations.EveryWordSelectsOneRow := by
  unfold Obligations.EveryWordSelectsOneRow
  refine fun w => ⟨wellFormed_decode w, ?_⟩
  rcases selectsRow_decode w with ⟨r, hr, hmn, happ⟩ | ⟨⟨r, hr, hmn, happ⟩, hnone⟩
  · refine ⟨r, List.mem_append_left _ hr, hmn, happ, fun q hq hqw => registerRow_unique hq hr hqw happ, fun hno => ?_⟩
    rw [hno r hr] at happ
    cases happ
  · refine ⟨r, List.mem_append_right _ hr, hmn, happ, fun q hq hqw => ?_,
      fun _ q hq hqw => kindRow_unique hq hr hqw happ⟩
    rw [hnone q hq] at hqw
    cases hqw

end Sys2Proof
end

section
/-! PROOFS. Runs and the raster (40_timing_controller): every run completes and moves the position by its TICKs (R128),
and `TOLINE` (30_encoding R106). -/

namespace Sys2Proof.Machine

/-! ### The position -/

/-- Every run of operations completes (60_exceptions R210). -/
theorem runAll_completes (is : List Instr) (s : State) : ∃ t, runAll is s = .next t := by
  induction is generalizing s with
  | nil => exact ⟨s, rfl⟩
  | cons i is ih =>
    obtain ⟨u, hu⟩ := exec_completes i s
    rw [runAll_cons hu]
    exact ih u

/-- The position in the raster is the frame's and the position within the frame (R128). -/
theorem State.position_eq (s : State) : s.position = s.frameCount.toNat * 88660 + s.framePosition := by
  rw [State.position, State.framePosition_eq]
  omega

theorem State.framePosition_lt {s : State} (hs : s.RasterInRange) : s.framePosition < 88660 := by
  obtain ⟨hc, hl⟩ := hs
  rw [State.framePosition_eq]
  omega

/-- The TICK that wraps the frame leaves the frame's last position. -/
theorem State.atFrameWrap_iff_framePosition {s : State} (hs : s.RasterInRange) :
    s.cycle.toNat = 340 ∧ s.scanline.toNat = 259 ↔ s.framePosition = 88659 := by
  obtain ⟨hc, hl⟩ := hs
  rw [State.framePosition_eq]
  omega

/-- A TICK moves the position on by one, modulo 2^32 frames (R128, D5). -/
theorem State.advance_position {s : State} (hs : s.RasterInRange) :
    s.advance.position = (s.position + 1) % (2 ^ 32 * 88660) := by
  obtain ⟨-, hpos⟩ := State.advance_framePosition hs
  have hlt := State.framePosition_lt hs
  have hframe : s.frameCount.toNat < 2 ^ 32 := s.frameCount.isLt
  have hcount : s.advance.frameCount.toNat =
      if s.framePosition = 88659 then (s.frameCount.toNat + 1) % 2 ^ 32 else s.frameCount.toNat := by
    simp only [State.advance_frameCount, State.atFrameWrap_iff_framePosition hs]
    split
    · exact BitVec.toNat_add ..
    · rfl
  rw [State.position_eq, State.position_eq, hpos, hcount]
  split <;> omega

/-- An operation other than RESET moves the position by the TICKs in it, none or one. -/
theorem exec_position {i : Instr} {s t : State} (hr : i ≠ .reset) (hs : s.RasterInRange)
    (h : exec i s = .next t) : t.position = (s.position + countTicks [i]) % (2 ^ 32 * 88660) := by
  by_cases hi : i = .tick
  · subst hi
    rw [exec_tick_eq h]
    exact State.advance_position hs
  · have hsame := exec_sameFrameSide hi hr h
    have hcount : countTicks [i] = 0 := List.count_singleton.trans (if_neg (by simpa using hi))
    have hlt := State.framePosition_lt hs
    have hframe : s.frameCount.toNat < 2 ^ 32 := s.frameCount.isLt
    have hkept : t.position = s.position := by
      rw [State.position, hsame.cycle, hsame.scanline, hsame.frameCount, State.position]
    rw [hkept, hcount, State.position_eq]
    omega

/-- A run without RESET moves the position by the number of its TICKs (R128). -/
theorem runAll_position {is : List Instr} {s t : State} (hr : Instr.reset ∉ is) (hs : s.RasterInRange)
    (h : runAll is s = .next t) : t.position = (s.position + countTicks is) % (2 ^ 32 * 88660) := by
  induction is generalizing s with
  | nil =>
    have hlt := State.framePosition_lt hs
    have hframe : s.frameCount.toNat < 2 ^ 32 := s.frameCount.isLt
    have hcount : countTicks [] = 0 := List.count_nil
    cases h
    rw [hcount, State.position_eq]
    omega
  | cons i is ih =>
    obtain ⟨hi, his⟩ := List.ne_and_not_mem_of_not_mem_cons hr
    obtain ⟨u, hu⟩ := exec_completes i s
    obtain ⟨hrange, -⟩ := exec_framePosition (Ne.symm hi) hs hu
    rw [runAll_cons hu] at h
    have hcount : countTicks (i :: is) = countTicks [i] + countTicks is := List.count_append (l₁ := [i])
    rw [ih his hrange h, exec_position (Ne.symm hi) hs hu, hcount]
    omega

/-- Settles O13: by induction on the run, each operation moving the position by the TICKs in it. -/
theorem runMovesPositionByItsTicks : Obligations.RunMovesPositionByItsTicks := by
  unfold Obligations.RunMovesPositionByItsTicks
  intro is s hr hc hl
  obtain ⟨t, ht⟩ := runAll_completes is s
  obtain ⟨⟨hc', hl'⟩, -⟩ := runAll_framePosition hr ⟨hc, hl⟩ ht
  exact ⟨t, ht, hc', hl', runAll_position hr ⟨hc, hl⟩ ht⟩

/-- The position, being a mixed-radix number, determines its three digits. -/
theorem State.getState_eq_of_position {s t : State} (hs : s.RasterInRange) (ht : t.RasterInRange)
    (h : t.position = s.position) : t.getState = s.getState := by
  obtain ⟨hc, hl⟩ := hs
  obtain ⟨hc', hl'⟩ := ht
  rw [State.position, State.position] at h
  have hcycle : t.cycle = s.cycle := BitVec.eq_of_toNat_eq (by omega)
  have hline : t.scanline = s.scanline := BitVec.eq_of_toNat_eq (by omega)
  have hframe : t.frameCount = s.frameCount := BitVec.eq_of_toNat_eq (by omega)
  rw [State.getState, State.getState, hcycle, hline, hframe]

/-- Settles O14: the run ends at the position of the same place in the next frame. -/
theorem frameOfTicksReturnsToItsStart : Obligations.FrameOfTicksReturnsToItsStart := by
  unfold Obligations.FrameOfTicksReturnsToItsStart
  intro is s hr hcount hc hl
  obtain ⟨t, ht⟩ := runAll_completes is s
  obtain ⟨hrange, -⟩ := runAll_framePosition hr ⟨hc, hl⟩ ht
  refine ⟨t, ht, State.getState_eq_of_position (s := { s with frameCount := s.frameCount + 1#32 }) ⟨hc, hl⟩ hrange ?_⟩
  have hframe : s.frameCount.toNat < 2 ^ 32 := s.frameCount.isLt
  have hnext : (s.frameCount + 1#32).toNat = (s.frameCount.toNat + 1) % 2 ^ 32 := BitVec.toNat_add ..
  rw [runAll_position hr ⟨hc, hl⟩ ht, hcount, State.position, State.position]
  simp only [hnext]
  omega

/-! ### TOLINE -/

theorem reset_not_mem_tickN (n : Nat) : Instr.reset ∉ tickN n :=
  fun h => nomatch List.eq_of_mem_replicate h

theorem countTicks_tickN (n : Nat) : countTicks (tickN n) = n := List.count_replicate_self

/-- `n` TICKs move the position within the frame by `n` (R128). -/
theorem runAll_tickN_framePosition (n : Nat) {s : State} (hs : s.RasterInRange) :
    ∃ t, runAll (tickN n) s = .next t ∧ t.RasterInRange ∧ t.framePosition = (s.framePosition + n) % 88660 := by
  obtain ⟨t, ht⟩ := runAll_completes (tickN n) s
  have hpos := runAll_framePosition (reset_not_mem_tickN n) hs ht
  rw [countTicks_tickN] at hpos
  exact ⟨t, ht, hpos⟩

/-- The first position of a scanline, as a number. -/
theorem State.atLineStart_iff {s : State} (hs : s.RasterInRange) (l : Nat) :
    s.cycle = 0#9 ∧ s.scanline.toNat = l ↔ s.framePosition = l * 341 := by
  obtain ⟨hc, hl⟩ := hs
  have hzero : s.cycle = 0#9 ↔ s.cycle.toNat = 0 := BitVec.toNat_inj.symm
  rw [hzero, State.framePosition_eq]
  omega

theorem tolineCount_eq (s : State) (l : Nat) :
    tolineCount s l = (l * 341 + 88660 - s.framePosition - 1) % 88660 + 1 := rfl

/-- Settles O53: the position after `n` TICKs is the first one of the line exactly when `n` is `TOLINE`'s count, modulo
the TICKs of a frame. -/
theorem tolineIsTheLeastCount : Obligations.TolineIsTheLeastCount := by
  unfold Obligations.TolineIsTheLeastCount
  intro s l hc hs hl
  have hlt := State.framePosition_lt ⟨hc, hs⟩
  rw [toline, tolineCount_eq]
  refine ⟨?_, Nat.succ_pos _, fun n hn hless => ?_⟩
  · obtain ⟨t, ht, hrange, hpos⟩ :=
      runAll_tickN_framePosition ((l * 341 + 88660 - s.framePosition - 1) % 88660 + 1) ⟨hc, hs⟩
    exact ⟨t, ht, (State.atLineStart_iff hrange l).2 (by omega)⟩
  · obtain ⟨t, ht, hrange, hpos⟩ := runAll_tickN_framePosition n ⟨hc, hs⟩
    exact ⟨t, ht, fun hat => absurd ((State.atLineStart_iff hrange l).1 hat) (by omega)⟩

end Sys2Proof.Machine
end

section
/-! PROOFS. The TICKs at the two thresholds (40_timing_controller R123, R124): what they change, what every TICK leaves
alone, and which operations touch a frame buffer (R125) or depend on the enable (60_exceptions R218). -/

namespace Sys2Proof.Machine

/-! ### What a TICK leaves alone -/

/-- The fields a TICK never changes: the registers that WRITEs set, VRAM, CGRAM and OAM (40_timing_controller R120 to
R124). -/
structure State.SameRegisterSide (s t : State) : Prop where
  nmiEnable : t.nmiEnable = s.nmiEnable
  layer0 : t.layer0 = s.layer0
  layer1 : t.layer1 = s.layer1
  layer2 : t.layer2 = s.layer2
  layer3 : t.layer3 = s.layer3
  vramAddress : t.vramAddress = s.vramAddress
  vramIncrement : t.vramIncrement = s.vramIncrement
  vramRemapMode : t.vramRemapMode = s.vramRemapMode
  incrementOnHighByteWrite : t.incrementOnHighByteWrite = s.incrementOnHighByteWrite
  cgramAddress : t.cgramAddress = s.cgramAddress
  vram : t.vram = s.vram
  oam : t.oam = s.oam
  cgram : t.cgram = s.cgram
  draws : t.draws = s.draws
  inputs : t.inputs = s.inputs

theorem State.advance_sameRegisterSide (s : State) : s.SameRegisterSide s.advance := by
  by_cases he : s.atVblankEdge = true
  · rw [State.advance_edge s he]
    constructor <;> simp
  · rw [State.advance_away s he]
    constructor <;> rfl

/-- Away from the start of vblank a TICK leaves the frame side alone, but for the raster and the flag. -/
theorem State.advance_away_frameSide {s : State} (he : ¬s.atVblankEdge = true) :
    s.advance.fb0 = s.fb0 ∧ s.advance.fb1 = s.fb1 ∧ s.advance.active = s.active ∧ s.advance.voBuf = s.voBuf ∧
      s.advance.voFrame = s.voFrame ∧ s.advance.handedOver = s.handedOver := by
  rw [State.advance_away s he]
  exact ⟨rfl, rfl, rfl, rfl, rfl, rfl⟩

/-! ### The two thresholds -/

/-- After the TICK that starts vblank the buffer that was active holds the picture (44_frame_dispatch R200). -/
theorem State.advance_edge_fbRead {s : State} (he : s.atVblankEdge = true) {x y : Nat} (hx : x < 256) (hy : y < 224) :
    s.advance.fbRead s.active x y = s.pixelAt x y := by
  have hfb : s.advance.fb s.active = s.renderFrame.fb s.active := by
    rw [State.advance_edge s he]
    rfl
  have hdraws : s.advance.draws = s.renderFrame.draws := by
    rw [s.advance_sameRegisterSide.draws, State.renderFrame, State.setFb_draws]
  rw [State.fbRead_congr hfb hdraws, State.renderFrame_fbRead_active s hx hy]

/-- That TICK writes no buffer but the active one (43_render_pipeline R188). -/
theorem State.advance_edge_fb_other {s : State} (he : s.atVblankEdge = true) {b : BufferIndex} (hb : b ≠ s.active) :
    s.advance.fb b = s.fb b := by
  rw [State.advance_edge s he]
  exact State.renderFrame_fb_other s hb

theorem bufferIndex_other_ne (b : BufferIndex) : 1#1 - b ≠ b := by
  revert b; decide

@[simp] theorem bufferIndex_other_other (b : BufferIndex) : 1#1 - (1#1 - b) = b := by
  revert b; decide

/-- Settles O11: the TICK at the threshold, whole, with the two buffers read by the laws of RenderFrame. -/
theorem tickStartsVblank : Obligations.TickStartsVblank := by
  unfold Obligations.TickStartsVblank
  intro s hc hl
  have he : s.atVblankEdge = true := (State.atVblankEdge_iff s).2 ⟨hc, hl⟩
  refine ⟨s.advance, exec_tick s, fun x y => State.advance_edge_fbRead he,
    State.advance_edge_fb_other he (bufferIndex_other_ne s.active), ?_⟩
  rw [State.advance_edge s he]
  generalize s.renderedFrame = m
  rcases bufferIndex_cases s.active with hb | hb <;> rw [hb] <;> rfl

/-- Settles O12: the TICK at the second threshold, with the 32-bit sum as a number. -/
theorem tickWrapsFrame : Obligations.TickWrapsFrame := by
  unfold Obligations.TickWrapsFrame
  intro s hc hl
  have hcount : s.frameCount + 1#32 = BitVec.ofNat 32 ((s.frameCount.toNat + 1) % 2 ^ 32) := by bv_omega
  rw [exec_tick, State.advance_wrap s hc hl, ← hcount]
  rfl

/-! ### Only the TICK that starts vblank touches frames -/

/-- Every operation but the TICK that starts vblank leaves the held ports alone (30_encoding R81). -/
theorem exec_heldPorts {i : Instr} {s t : State} (hi : ¬(i = .tick ∧ s.atVblankEdge = true)) (h : exec i s = .next t) :
    t.voBuf = s.voBuf ∧ t.voFrame = s.voFrame ∧ t.handedOver = s.handedOver := by
  by_cases hit : i = .tick
  · subst hit
    obtain ⟨-, -, -, hports⟩ := State.advance_away_frameSide (fun he => hi ⟨rfl, he⟩)
    rwa [exec_tick_eq h]
  by_cases hr : i = .reset
  · subst hr
    cases h
    exact ⟨rfl, rfl, rfl⟩
  · have hsame := exec_sameFrameSide hit hr h
    exact ⟨hsame.voBuf, hsame.voFrame, hsame.handedOver⟩

/-- Every operation but that TICK and RESET leaves the buffers and `active` alone (40_timing_controller R125). -/
theorem exec_frameBuffers {i : Instr} {s t : State} (hi : ¬(i = .tick ∧ s.atVblankEdge = true)) (hr : i ≠ .reset)
    (h : exec i s = .next t) : t.fb0 = s.fb0 ∧ t.fb1 = s.fb1 ∧ t.active = s.active := by
  by_cases hit : i = .tick
  · subst hit
    obtain ⟨hfb0, hfb1, hactive, -⟩ := State.advance_away_frameSide (fun he => hi ⟨rfl, he⟩)
    rw [exec_tick_eq h]
    exact ⟨hfb0, hfb1, hactive⟩
  · have hsame := exec_sameFrameSide hit hr h
    exact ⟨hsame.fb0, hsame.fb1, hsame.active⟩

/-- Settles O19: the events, the ports and the buffers each by cases on the operation. -/
theorem onlyVblankTickTouchesFrames : Obligations.OnlyVblankTickTouchesFrames := by
  unfold Obligations.OnlyVblankTickTouchesFrames
  intro i s t hi h
  obtain ⟨hbuf, hframe, hover⟩ := exec_heldPorts hi h
  exact ⟨by rw [exec_events h, if_neg hi], hbuf, hframe, hover, fun hr => exec_frameBuffers hi hr h⟩

/-! ### The enable -/

/-- A TICK that does not start vblank carries the enable through (60_exceptions R218). -/
theorem State.advance_away_nmiEnable {s : State} (he : ¬s.atVblankEdge = true) (b : Bool) :
    State.advance { s with nmiEnable := b } = { s.advance with nmiEnable := b } := by
  rw [State.atVblankEdge_iff] at he
  by_cases hc : s.cycle.toNat = 340
  · by_cases hl : s.scanline.toNat = 259
    · rw [State.advance_wrap s hc hl, State.advance_wrap { s with nmiEnable := b } hc hl]
      rfl
    · have hv : s.scanline.toNat ≠ 224 := fun hv => he ⟨hc, hv⟩
      rw [State.advance_line s hc hv hl, State.advance_line { s with nmiEnable := b } hc hv hl]
      rfl
  · rw [State.advance_within s hc, State.advance_within { s with nmiEnable := b } hc]
    rfl

/-- The TICK that starts vblank carries the enable through, but for the outputs. -/
theorem State.advance_edge_nmiEnable {s : State} (he : s.atVblankEdge = true) (b : Bool) :
    State.advance { s with nmiEnable := b } =
      { s.advance with nmiEnable := b, out := (State.advance { s with nmiEnable := b }).out } := by
  have he' : State.atVblankEdge { s with nmiEnable := b } = true := he
  have hframe : State.renderedFrame { s with nmiEnable := b } = s.renderedFrame := rfl
  rw [State.advance_edge s he, State.advance_edge { s with nmiEnable := b } he', hframe]
  generalize s.renderedFrame = m
  rcases bufferIndex_cases s.active with hb | hb <;> rw [hb] <;> rfl

/-- The outputs of the TICK that starts vblank (44_frame_dispatch R200 to R205). -/
theorem State.advance_edge_out {s : State} (he : s.atVblankEdge = true) :
    s.advance.out =
      ⟨[.frameReady, .frameHandoff s.active s.frameCount] ++ (if s.nmiEnable then [.nmi] else []), none⟩ := by
  rw [State.advance_edge s he]

/-- Settles O18: the TICK that starts vblank by its whole outputs, the others because they only carry the enable. -/
theorem enableDecidesOnlyThePulse : Obligations.EnableDecidesOnlyThePulse := by
  unfold Obligations.EnableDecidesOnlyThePulse
  refine fun i s t t' b h h' => ⟨fun ⟨hi, he⟩ => ?_, fun hi hr hn => ?_⟩
  · subst hi
    have he' : State.atVblankEdge { s with nmiEnable := b } = true := he
    rw [exec_tick_eq h, exec_tick_eq h']
    refine ⟨State.advance_edge_nmiEnable he b, ?_, ?_, ?_⟩ <;> rw [State.advance_edge_out he']
    · rw [State.advance_edge_out he]
    · rw [State.advance_edge_out he]
      cases s.nmiEnable <;> cases b <;> simp
    · cases b <;> simp
  · cases i
    case tick =>
      rw [exec_tick_eq h, exec_tick_eq h']
      exact State.advance_away_nmiEnable (fun he => hi ⟨rfl, he⟩) b
    case reset => exact absurd rfl hr
    case nmien v => exact absurd rfl (hn v)
    all_goals (cases h; cases h'; rfl)

end Sys2Proof.Machine
end

section
/-! PROOFS. The fields that no operation reads (10_state R27, R30, R34): erasing them before or after an operation is
the same, so no run depends on them. -/

namespace Sys2Proof.Machine

/-- No TICK reads an erased field: the picture is made of VRAM, CGRAM and the two bases of `layer[0]`
(43_render_pipeline R191). -/
theorem State.advance_eraseUnread (s : State) : s.eraseUnread.advance.eraseUnread = s.advance.eraseUnread := by
  by_cases hc : s.cycle.toNat = 340
  · by_cases hv : s.scanline.toNat = 224
    · have he : s.atVblankEdge = true := (State.atVblankEdge_iff s).2 ⟨hc, hv⟩
      have he' : s.eraseUnread.atVblankEdge = true := he
      have hframe : s.eraseUnread.renderedFrame = s.renderedFrame := rfl
      rw [State.advance_edge s he, State.advance_edge s.eraseUnread he', hframe]
      generalize s.renderedFrame = m
      have hactive : s.eraseUnread.active = s.active := rfl
      rw [hactive]
      rcases bufferIndex_cases s.active with hb | hb <;> rw [hb] <;> rfl
    · by_cases hl : s.scanline.toNat = 259
      · rw [State.advance_wrap s hc hl, State.advance_wrap s.eraseUnread hc hl]
        rfl
      · rw [State.advance_line s hc hv hl, State.advance_line s.eraseUnread hc hv hl]
        rfl
  · rw [State.advance_within s hc, State.advance_within s.eraseUnread hc]
    rfl

/-- An operation does to the erased state what it does to the state, up to the erased fields. -/
theorem exec_eraseUnread {i : Instr} {s t u : State} (h : exec i s = .next t) (hu : exec i s.eraseUnread = .next u) :
    u.eraseUnread = t.eraseUnread := by
  cases i
  case tick =>
    rw [exec_tick_eq h, exec_tick_eq hu]
    exact s.advance_eraseUnread
  all_goals (cases h; cases hu; rfl)

/-- An operation keeps two states alike that differ in the erased fields only. -/
theorem exec_eraseUnread_congr {i : Instr} {s s' t t' : State} (hs : s.eraseUnread = s'.eraseUnread)
    (h : exec i s = .next t) (h' : exec i s' = .next t') : t.eraseUnread = t'.eraseUnread := by
  obtain ⟨u, hu⟩ := exec_completes i s.eraseUnread
  have hu' : exec i s'.eraseUnread = .next u := hs ▸ hu
  rw [← exec_eraseUnread h hu, exec_eraseUnread h' hu']

/-- The outputs are no erased field. -/
theorem State.out_eq_of_eraseUnread {s s' : State} (hs : s.eraseUnread = s'.eraseUnread) : s.out = s'.out := by
  have hout : s.eraseUnread.out = s'.eraseUnread.out := by rw [hs]
  exact hout

theorem runEvents_cons {i : Instr} {is : List Instr} {s t : State} (h : exec i s = .next t) :
    runEvents (i :: is) s = t.out.events ++ runEvents is t := by
  rw [runEvents, h]

/-- Settles O44: by induction on the run, each operation keeping the two states alike, their outputs included. -/
theorem unreadStateHasNoEffect : Obligations.UnreadStateHasNoEffect := by
  unfold Obligations.UnreadStateHasNoEffect
  intro is
  induction is with
  | nil => exact fun s s' hs => ⟨rfl, s, s', rfl, rfl, hs⟩
  | cons i is ih =>
    intro s s' hs
    obtain ⟨t, ht⟩ := exec_completes i s
    obtain ⟨t', ht'⟩ := exec_completes i s'
    have htt := exec_eraseUnread_congr hs ht ht'
    obtain ⟨hevents, hrun⟩ := ih t t' htt
    rw [runEvents_cons ht, runEvents_cons ht', runAll_cons ht, runAll_cons ht', State.out_eq_of_eraseUnread htt,
      hevents]
    exact ⟨rfl, hrun⟩

end Sys2Proof.Machine
end

section
/-! PROOFS. The invariant (10_state R41), clause by clause: the canonical form of the memories (log 6), the increment
(R41 (d)), the alignment of the bases (R41 (g)), and the raster with the count of the frames handed over (R41 (a) to
(c), (h)). -/

namespace Sys2Proof.Machine

/-! ### The canonical form of the memories -/

theorem State.memoriesWf_iff (s : State) :
    s.memoriesWf = true ↔ Memory.wf 65536 s.vram = true ∧ Memory.wf 544 s.oam = true ∧ Memory.wf 512 s.cgram = true ∧
      Bank.wf 57344 s.fb0 = true ∧ Bank.wf 57344 s.fb1 = true := by
  simp only [State.memoriesWf, Bool.and_eq_true, and_assoc]

/-- Equal memories are in the same form. -/
theorem State.memoriesWf_congr {s t : State} (hv : t.vram = s.vram) (ho : t.oam = s.oam) (hc : t.cgram = s.cgram)
    (h0 : t.fb0 = s.fb0) (h1 : t.fb1 = s.fb1) : t.memoriesWf = s.memoriesWf := by
  rw [State.memoriesWf, hv, ho, hc, h0, h1, State.memoriesWf]

/-- RenderFrame writes a frame in canonical form, the only memory that a TICK writes. -/
theorem State.advance_memoriesWf {s : State} (hs : s.memoriesWf = true) : s.advance.memoriesWf = true := by
  have hside := s.advance_sameRegisterSide
  by_cases he : s.atVblankEdge = true
  · have hframe := s.renderedFrame_wf
    rw [State.memoriesWf_iff] at hs ⊢
    obtain ⟨hvram, hoam, hcgram, hfb0, hfb1⟩ := hs
    rw [hside.vram, hside.oam, hside.cgram, State.advance_edge s he]
    refine ⟨hvram, hoam, hcgram, ?_, ?_⟩
    · rw [State.setFb_fb0]
      split
      · exact hframe
      · exact hfb0
    · rw [State.setFb_fb1]
      split
      · exact hfb1
      · exact hframe
  · obtain ⟨hfb0, hfb1, -⟩ := State.advance_away_frameSide he
    rwa [State.memoriesWf_congr hside.vram hside.oam hside.cgram hfb0 hfb1]

/-- Every operation keeps the canonical form: a store keeps it by the law of the bank, RESET leaves nothing stored. -/
theorem exec_memoriesWf {i : Instr} {s t : State} (hs : s.memoriesWf = true) (h : exec i s = .next t) :
    t.memoriesWf = true := by
  cases i
  case tick =>
    rw [exec_tick_eq h]
    exact State.advance_memoriesWf hs
  case vdatal v | vdatah v =>
    cases h
    rw [State.memoriesWf_iff] at hs ⊢
    exact ⟨State.vramWrite_wf _ v hs.1, hs.2⟩
  case cgdata v =>
    cases h
    rw [State.memoriesWf_iff] at hs ⊢
    obtain ⟨hvram, hoam, hcgram, hbuffers⟩ := hs
    exact ⟨hvram, hoam, State.cgWrite_wf _ v hcgram, hbuffers⟩
  case reset =>
    cases h
    rfl
  all_goals (cases h; simpa [State.memoriesWf] using hs)

/-- Settles O52: by cases on the operation. -/
theorem everyOperationKeepsMemoriesCanonical : Obligations.EveryOperationKeepsMemoriesCanonical := by
  unfold Obligations.EveryOperationKeepsMemoriesCanonical
  exact fun i s t => exec_memoriesWf

/-! ### The increment and the bases -/

/-- The amounts that registers can set (41_register_writes R147). -/
theorem incDecode_cases (v : Byte) : incDecode cfg v = 1#8 ∨ incDecode cfg v = 32#8 ∨ incDecode cfg v = 128#8 := by
  rw [incDecode]
  split_ifs <;> simp

/-- Every operation leaves an increment that registers can set (10_state R41 (d)). -/
theorem exec_increment {i : Instr} {s t : State}
    (hs : s.vramIncrement = 1#8 ∨ s.vramIncrement = 32#8 ∨ s.vramIncrement = 128#8) (h : exec i s = .next t) :
    t.vramIncrement = 1#8 ∨ t.vramIncrement = 32#8 ∨ t.vramIncrement = 128#8 := by
  cases i
  case tick => rwa [exec_tick_eq h, s.advance_sameRegisterSide.vramIncrement]
  case vportctrl v =>
    cases h
    exact incDecode_cases v
  case reset =>
    cases h
    exact .inl rfl
  all_goals (cases h; simpa using hs)

/-- A 6-bit field is shifted by 11 (D10). -/
theorem tmBase_mod (v : Byte) : (tmBase cfg v).toNat % 2048 = 0 := by
  rw [tmBase, cfg_tilemapShift, BitVec.toNat_ofNat, Nat.shiftLeft_eq]
  omega

/-- A nibble is shifted by 13 (D11). -/
theorem chrLo_mod (v : Byte) : (chrLo cfg v).toNat % 8192 = 0 := by
  rw [chrLo, cfg_chrShift, BitVec.toNat_ofNat, Nat.shiftLeft_eq]
  omega

theorem chrHi_mod (v : Byte) : (chrHi cfg v).toNat % 8192 = 0 := by
  rw [chrHi, cfg_chrShift, BitVec.toNat_ofNat, Nat.shiftLeft_eq]
  omega

theorem LayerConfig.aligned_iff (l : LayerConfig) :
    l.aligned = true ↔ l.tilemapAddress.toNat % 2048 = 0 ∧ l.chrAddress.toNat % 8192 = 0 := by
  simp [LayerConfig.aligned]

theorem LayerConfig.withTilemap_aligned {l : LayerConfig} (v : Byte) (hl : l.aligned = true) :
    (l.withTilemap v).aligned = true := by
  rw [LayerConfig.aligned_iff] at hl ⊢
  exact ⟨tmBase_mod v, hl.2⟩

theorem LayerConfig.withChr_aligned {l : LayerConfig} {base : BitVec 16} (hbase : base.toNat % 8192 = 0)
    (hl : l.aligned = true) : (l.withChr base).aligned = true := by
  rw [LayerConfig.aligned_iff] at hl ⊢
  exact ⟨hl.1, hbase⟩

/-- Every operation leaves the bases of the four layers aligned (10_state R41 (g)). -/
theorem exec_aligned {i : Instr} {s t : State}
    (hs : s.layer0.aligned ∧ s.layer1.aligned ∧ s.layer2.aligned ∧ s.layer3.aligned) (h : exec i s = .next t) :
    t.layer0.aligned ∧ t.layer1.aligned ∧ t.layer2.aligned ∧ t.layer3.aligned := by
  obtain ⟨h0, h1, h2, h3⟩ := hs
  cases i
  case tick =>
    have hside := s.advance_sameRegisterSide
    rw [exec_tick_eq h, hside.layer0, hside.layer1, hside.layer2, hside.layer3]
    exact ⟨h0, h1, h2, h3⟩
  case reset =>
    cases h
    exact ⟨rfl, rfl, rfl, rfl⟩
  case tilemap0 v => cases h; simpa using ⟨LayerConfig.withTilemap_aligned v h0, h1, h2, h3⟩
  case tilemap1 v => cases h; simpa using ⟨h0, LayerConfig.withTilemap_aligned v h1, h2, h3⟩
  case tilemap2 v => cases h; simpa using ⟨h0, h1, LayerConfig.withTilemap_aligned v h2, h3⟩
  case tilemap3 v => cases h; simpa using ⟨h0, h1, h2, LayerConfig.withTilemap_aligned v h3⟩
  case chrbase01 v =>
    cases h
    simpa using ⟨LayerConfig.withChr_aligned (chrLo_mod v) h0, LayerConfig.withChr_aligned (chrHi_mod v) h1, h2, h3⟩
  case chrbase23 v =>
    cases h
    simpa using ⟨h0, h1, LayerConfig.withChr_aligned (chrLo_mod v) h2, LayerConfig.withChr_aligned (chrHi_mod v) h3⟩
  all_goals (cases h; simpa using ⟨h0, h1, h2, h3⟩)

/-! ### The frames handed over -/

/-- The raster side of the invariant (10_state R41 (a) to (c), (h)): the flag and the buffers are functions of the
raster position. -/
structure State.RasterInv (s : State) : Prop where
  range : s.RasterInRange
  nmiFlag_iff : s.nmiFlag = decide (225 ≤ s.scanline.toNat)
  active_parity : s.active = s.framesHandedOver.setWidth 1
  handed_over : s.framesHandedOver ≠ 0#32 →
    s.handedOver = true ∧ s.voBuf = 1#1 - s.active ∧ s.voFrame = s.framesHandedOver - 1#32

/-- The frames handed over are counted from scanline 225 on: by the handoff at its start, and at the frame wrap by
`frameCount` itself. -/
theorem State.advance_framesHandedOver {s : State} (hs : s.RasterInRange) :
    s.advance.framesHandedOver = if s.atVblankEdge = true then s.framesHandedOver + 1#32 else s.framesHandedOver := by
  obtain ⟨-, hl⟩ := hs
  simp only [State.framesHandedOver, State.advance_scanline, State.advance_frameCount, State.atVblankEdge_iff]
  by_cases hc : s.cycle.toNat = 340
  · by_cases hv : s.scanline.toNat = 224
    · simp [hc, hv]
    · by_cases hw : s.scanline.toNat = 259
      · simp [hc, hw]
      · have hnext : (s.scanline.toNat + 1) % 512 = s.scanline.toNat + 1 := Nat.mod_eq_of_lt (by omega)
        have hside : 225 ≤ s.scanline.toNat + 1 ↔ 225 ≤ s.scanline.toNat := by omega
        simp only [hc, hv, hw, hnext, hside, if_true, if_false, and_false]
  · simp [hc]

/-- The count's parity goes with the swap (44_frame_dispatch R203). -/
theorem setWidth_one_add_one (n : FrameNumber) : (n + 1#32).setWidth 1 = 1#1 - n.setWidth 1 := by
  have hflip : ∀ b : BufferIndex, b + 1#1 = 1#1 - b := by decide
  rw [BitVec.setWidth_add n 1#32 (by decide), ← hflip]
  rfl

/-- A TICK keeps the raster side: the one at the start of vblank sets the flag, the ports and `active` and adds a frame
to the count, the one at the wrap clears the flag. -/
theorem State.advance_rasterInv {s : State} (hs : s.RasterInv) : s.advance.RasterInv := by
  obtain ⟨hrange, hflag, hparity, hports⟩ := hs
  have hcount := State.advance_framesHandedOver hrange
  have hrange' := (State.advance_framePosition hrange).1
  by_cases he : s.atVblankEdge = true
  · rw [if_pos he] at hcount
    obtain ⟨-, hl⟩ := (State.atVblankEdge_iff s).1 he
    have hframes : s.framesHandedOver = s.frameCount := by rw [State.framesHandedOver, if_neg (by omega)]
    have hadvance := State.advance_edge s he
    refine ⟨hrange', ?_, ?_, fun _ => ?_⟩
    · rw [hadvance]
      rfl
    · rw [hcount, setWidth_one_add_one, ← hparity, hadvance]
    · rw [hcount, hframes, hadvance]
      exact ⟨rfl, (bufferIndex_other_other s.active).symm, (BitVec.add_sub_cancel s.frameCount 1#32).symm⟩
  · rw [if_neg he] at hcount
    obtain ⟨-, -, hactive, hbuf, hframe, hover⟩ := State.advance_away_frameSide he
    refine ⟨hrange', ?_, ?_, ?_⟩
    · rw [State.advance_nmiFlag, if_neg he, State.advance_scanline, hflag]
      obtain ⟨hc, hl⟩ := hrange
      rw [State.atVblankEdge_iff] at he
      simp only [State.atFrameWrap_iff]
      split_ifs <;> simp <;> omega
    · rw [hactive, hcount, hparity]
    · rwa [hcount, hactive, hbuf, hframe, hover]

/-- An operation that leaves the frame side alone keeps the raster side. -/
theorem State.SameFrameSide.rasterInv {s t : State} (hsame : s.SameFrameSide t) (hs : s.RasterInv) : t.RasterInv := by
  obtain ⟨hrange, hflag, hparity, hports⟩ := hs
  have hcount : t.framesHandedOver = s.framesHandedOver := by
    rw [State.framesHandedOver, hsame.scanline, hsame.frameCount, State.framesHandedOver]
  refine ⟨?_, ?_, ?_, ?_⟩
  · rwa [State.RasterInRange, hsame.cycle, hsame.scanline]
  · rw [hsame.nmiFlag, hsame.scanline, hflag]
  · rw [hsame.active, hcount, hparity]
  · rwa [hcount, hsame.active, hsame.voBuf, hsame.voFrame, hsame.handedOver]

/-- Every operation keeps the raster side; after RESET no frame is counted. -/
theorem exec_rasterInv {i : Instr} {s t : State} (hs : s.RasterInv) (h : exec i s = .next t) : t.RasterInv := by
  by_cases hi : i = .tick
  · subst hi
    rw [exec_tick_eq h]
    exact State.advance_rasterInv hs
  by_cases hr : i = .reset
  · subst hr
    cases h
    exact ⟨⟨Nat.zero_le _, Nat.zero_lt_succ _⟩, rfl, rfl, fun hne => absurd rfl hne⟩
  · exact (exec_sameFrameSide hi hr h).rasterInv hs

/-! ### The invariant -/

theorem State.inv_iff (s : State) :
    s.Inv ↔ s.RasterInv ∧ (s.vramIncrement = 1#8 ∨ s.vramIncrement = 32#8 ∨ s.vramIncrement = 128#8) ∧
      (s.layer0.aligned ∧ s.layer1.aligned ∧ s.layer2.aligned ∧ s.layer3.aligned) ∧ s.memoriesWf = true := by
  rw [State.memoriesWf_iff]
  constructor
  · intro h
    exact ⟨⟨⟨h.cycle_le, h.scanline_lt⟩, h.nmiFlag_iff, h.active_parity, h.handed_over⟩, h.increment, h.aligned,
      h.vram_wf, h.oam_wf, h.cgram_wf, h.fb0_wf, h.fb1_wf⟩
  · rintro ⟨⟨⟨hc, hl⟩, hflag, hparity, hports⟩, hinc, haligned, hvram, hoam, hcgram, hfb0, hfb1⟩
    exact ⟨hc, hl, hflag, hinc, haligned, hparity, hports, hvram, hoam, hcgram, hfb0, hfb1⟩

/-- Every operation keeps the invariant (10_state R41). -/
theorem exec_inv {i : Instr} {s t : State} (hs : s.Inv) (h : exec i s = .next t) : t.Inv := by
  rw [State.inv_iff] at hs ⊢
  obtain ⟨hraster, hinc, haligned, hmem⟩ := hs
  exact ⟨exec_rasterInv hraster h, exec_increment hinc h, exec_aligned haligned h, exec_memoriesWf hmem h⟩

/-- The invariant says nothing of the outputs and of the events to come. -/
theorem State.inv_withPorts {s : State} (o : Output) (rest : List Ports) (hs : s.Inv) :
    State.Inv { s with out := o, inputs := rest } := by
  rw [State.inv_iff] at hs ⊢
  obtain ⟨⟨hrange, hflag, hparity, hports⟩, hregisters⟩ := hs
  exact ⟨⟨hrange, hflag, hparity, hports⟩, hregisters⟩

/-- Settles O51: a step runs one operation, or none, and every operation keeps the invariant. -/
theorem everyStepKeepsInvariant : Obligations.EveryStepKeepsInvariant := by
  unfold Obligations.EveryStepKeepsInvariant
  intro s t hs h
  rw [step] at h
  split at h
  case h_1 =>
    cases h
    exact State.inv_withPorts (s := s) ⟨[], none⟩ s.inputs hs
  case h_2 p rest hinputs =>
    split at h
    case h_1 =>
      cases h
      exact State.inv_withPorts (s := s) ⟨[], none⟩ rest hs
    case h_2 w hw => exact exec_inv (State.inv_withPorts s.out rest hs) h
    case h_3 => cases h

/-- Settles O50: clause by clause, on the one state. -/
theorem resetStateMeetsInvariant : Obligations.ResetStateMeetsInvariant := by
  unfold Obligations.ResetStateMeetsInvariant
  refine ⟨(State.inv_iff _).2 ⟨⟨⟨?_, ?_⟩, ?_, ?_, ?_⟩, ?_, ?_, ?_⟩, ?_⟩ <;> decide

/-! ### The count over a run -/

/-- The frames handed over grow by the handoffs of an operation, one or none (10_state R41 (h)). -/
theorem exec_framesHandedOver {i : Instr} {s t : State} (hr : i ≠ .reset) (hs : s.RasterInRange)
    (h : exec i s = .next t) :
    t.framesHandedOver = s.framesHandedOver + BitVec.ofNat 32 (t.out.events.countP OutEvent.isHandoff) := by
  rw [exec_events h]
  by_cases hi : i = .tick
  · subst hi
    rw [exec_tick_eq h, State.advance_framesHandedOver hs]
    by_cases he : s.atVblankEdge = true
    · rw [if_pos he, if_pos ⟨rfl, he⟩]
      cases s.nmiEnable <;> rfl
    · rw [if_neg he, if_neg (fun hte => he hte.2)]
      exact (BitVec.add_zero _).symm
  · have hsame := exec_sameFrameSide hi hr h
    rw [if_neg (fun hte => hi hte.1), State.framesHandedOver, hsame.scanline, hsame.frameCount]
    exact (BitVec.add_zero _).symm

/-- Over a run without RESET the frames handed over grow by its handoffs, modulo 2^32 (D5). -/
theorem runAll_framesHandedOver {is : List Instr} {s t : State} (hr : Instr.reset ∉ is) (hs : s.RasterInRange)
    (h : runAll is s = .next t) :
    t.framesHandedOver =
      s.framesHandedOver + BitVec.ofNat 32 ((runEvents is s).countP OutEvent.isHandoff) := by
  induction is generalizing s with
  | nil =>
    cases h
    exact (BitVec.add_zero _).symm
  | cons i is ih =>
    obtain ⟨hi, his⟩ := List.ne_and_not_mem_of_not_mem_cons hr
    obtain ⟨u, hu⟩ := exec_completes i s
    obtain ⟨hrange, -⟩ := exec_framePosition (Ne.symm hi) hs hu
    rw [runAll_cons hu] at h
    rw [ih his hrange h, exec_framesHandedOver (Ne.symm hi) hs hu, runEvents_cons hu, List.countP_append,
      BitVec.ofNat_add, BitVec.add_assoc]

/-- Every run keeps the invariant. -/
theorem runAll_inv {is : List Instr} {s t : State} (hs : s.Inv) (h : runAll is s = .next t) : t.Inv := by
  induction is generalizing s with
  | nil =>
    cases h
    exact hs
  | cons i is ih =>
    obtain ⟨u, hu⟩ := exec_completes i s
    rw [runAll_cons hu] at h
    exact ih (exec_inv hs hu) h

/-- Settles O15: the count by induction on the run, the parity by the invariant. -/
theorem handoffsAreCountedByFrames : Obligations.HandoffsAreCountedByFrames := by
  unfold Obligations.HandoffsAreCountedByFrames
  exact fun is s t hr hs h =>
    ⟨runAll_framesHandedOver hr ⟨hs.cycle_le, hs.scanline_lt⟩ h, (runAll_inv hs h).active_parity⟩

end Sys2Proof.Machine
end

section
/-! PROOFS. The register writes whole (41_register_writes R141 to R151, R153, R155), what each leaves alone (R140),
which operations write the video memories (10_state R33 to R35), and a word through the VRAM port (20_memory R57). -/

namespace Sys2Proof.Machine

/-! ### Fields of a byte, as numbers -/

theorem field_toNat (v : Byte) (lo n : Nat) : (field v lo n).toNat = v.toNat / 2 ^ lo % 2 ^ n := by
  rw [field, BitVec.extractLsb'_toNat, Nat.shiftRight_eq_div_pow]

/-- A bit of a word, by the number that the word is. -/
theorem getLsbD_eq_beq {w : Nat} (v : BitVec w) (i : Nat) : v.getLsbD i = (v.toNat / 2 ^ i % 2 == 1) := by
  rw [← BitVec.testBit_toNat, Nat.testBit_eq_decide_div_mod_eq, beq_eq_decide]

theorem tmBase_eq (v : Byte) : tmBase cfg v = BitVec.ofNat 16 (v.toNat / 4 * 2048) := by
  have hv : v.toNat < 256 := v.isLt
  have hfield : v.toNat / 4 % 64 = v.toNat / 4 := Nat.mod_eq_of_lt (by omega)
  rw [tmBase, field_toNat, cfg_tilemapShift, Nat.shiftLeft_eq]
  norm_num [hfield]

theorem chrLo_eq (v : Byte) : chrLo cfg v = BitVec.ofNat 16 (v.toNat % 16 * 8192) := by
  rw [chrLo, field_toNat, cfg_chrShift, Nat.shiftLeft_eq]
  norm_num

theorem chrHi_eq (v : Byte) : chrHi cfg v = BitVec.ofNat 16 (v.toNat / 16 * 8192) := by
  have hv : v.toNat < 256 := v.isLt
  have hfield : v.toNat / 16 % 16 = v.toNat / 16 := Nat.mod_eq_of_lt (by omega)
  rw [chrHi, field_toNat, cfg_chrShift, Nat.shiftLeft_eq]
  norm_num [hfield]

/-- The increment code, as a number (R147). -/
theorem incDecode_eq (v : Byte) :
    incDecode cfg v = BitVec.ofNat 8 (if v.toNat % 4 = 0 then 1 else if v.toNat % 4 = 1 then 32 else 128) := by
  have hcode : (field v cfg.incLsb 2).toNat = v.toNat % 4 := by
    rw [cfg_incLsb, field_toNat, Nat.pow_zero, Nat.div_one]
    rfl
  have hzero : field v cfg.incLsb 2 = 0#2 ↔ v.toNat % 4 = 0 := by rw [← hcode]; exact BitVec.toNat_inj.symm
  have hone : field v cfg.incLsb 2 = 1#2 ↔ v.toNat % 4 = 1 := by rw [← hcode]; exact BitVec.toNat_inj.symm
  simp only [incDecode, hzero, hone]
  split_ifs <;> rfl

theorem remap_eq (v : Byte) : remap cfg v = BitVec.ofNat 2 (v.toNat / 4) := by
  apply BitVec.eq_of_toNat_eq
  rw [remap, field_toNat, BitVec.toNat_ofNat]
  rfl

/-- Bit 7 is set in the bytes from 128 on (R147). -/
theorem incHi_eq (v : Byte) : incHi cfg v = decide (128 ≤ v.toNat) :=
  BitVec.msb_eq_decide v

/-- The address after an increment, as a number (D9). -/
theorem incrementedAddr_eq (a : VramAddr) (inc : BitVec 8) :
    incrementedAddr a inc = BitVec.ofNat 15 ((a.toNat + inc.toNat) % 32768) := by
  rw [incrementedAddr]
  bv_omega

/-! ### The layer registers and the port control -/

/-- The tilemap part of a layer, with its fields as numbers (R141, D10, D12). -/
theorem LayerConfig.withTilemap_eq (l : LayerConfig) (v : Byte) :
    l.withTilemap v =
      { tilemapAddress := BitVec.ofNat 16 (v.toNat / 4 * 2048), chrAddress := l.chrAddress,
        horizontalMirroring := v.toNat % 2 == 1, verticalMirroring := v.toNat / 2 % 2 == 1 } := by
  rw [LayerConfig.withTilemap, tmBase_eq, tmHMirror, tmVMirror, getLsbD_eq_beq, getLsbD_eq_beq, cfg_hmirrorBit,
    cfg_vmirrorBit, Nat.pow_zero, Nat.div_one, Nat.pow_one]

/-- Settles O20: each write sets the tilemap part of its layer. -/
theorem tilemapWrites : Obligations.TilemapWrites := by
  unfold Obligations.TilemapWrites
  intro v s
  simp only [← LayerConfig.withTilemap_eq]
  exact ⟨rfl, rfl, rfl, rfl⟩

/-- Settles O21: each write sets the CHR bases of its two layers. -/
theorem chrBaseWrites : Obligations.ChrBaseWrites := by
  unfold Obligations.ChrBaseWrites
  intro v s
  rw [← chrLo_eq, ← chrHi_eq]
  exact ⟨rfl, rfl⟩

/-- Settles O22: the three fields as numbers. -/
theorem vportctrlWrite : Obligations.VportctrlWrite := by
  unfold Obligations.VportctrlWrite
  intro v s
  rw [← incDecode_eq, ← remap_eq, ← incHi_eq]
  rfl

/-! ### The data ports -/

@[simp] theorem State.vramRead_quiet (s : State) (a : Nat) : s.quiet.vramRead a = s.vramRead a :=
  State.vramRead_congr rfl rfl a

@[simp] theorem State.vramRead_stepVramAddress (s : State) (b : Bool) (a : Nat) :
    (s.stepVramAddress b).vramRead a = s.vramRead a :=
  State.vramRead_congr rfl rfl a

/-- VDATAL stores its byte at the even place of the addressed word and keeps every other byte (R150). -/
theorem exec_vdatal_vramRead {v : Byte} {s t : State} (h : exec (.vdatal v) s = .next t) (a : Nat) :
    t.vramRead a = if a % 65536 = 2 * s.vramAddress.toNat then v else s.vramRead a := by
  cases h
  have hlt : s.vramAddress.toNat < 32768 := s.vramAddress.isLt
  have hplace : 2 * s.vramAddress.toNat % 65536 = 2 * s.vramAddress.toNat := Nat.mod_eq_of_lt (by omega)
  rw [State.vramRead_stepVramAddress, State.vramRead_vramWrite, hplace, State.vramRead_quiet]

/-- VDATAH stores its byte at the odd place of the addressed word and keeps every other byte (R151). -/
theorem exec_vdatah_vramRead {v : Byte} {s t : State} (h : exec (.vdatah v) s = .next t) (a : Nat) :
    t.vramRead a = if a % 65536 = 2 * s.vramAddress.toNat + 1 then v else s.vramRead a := by
  cases h
  have hlt : s.vramAddress.toNat < 32768 := s.vramAddress.isLt
  have hplace : (2 * s.vramAddress.toNat + 1) % 65536 = 2 * s.vramAddress.toNat + 1 := Nat.mod_eq_of_lt (by omega)
  rw [State.vramRead_stepVramAddress, State.vramRead_vramWrite, hplace, State.vramRead_quiet]

/-- VDATAL changes VRAM and the address only (R150). -/
theorem exec_vdatal_frame {v : Byte} {s t : State} (h : exec (.vdatal v) s = .next t) :
    t = { s with vram := t.vram, vramAddress := t.vramAddress, out := ⟨[], none⟩ } := by
  cases h; rfl

/-- VDATAH changes VRAM and the address only (R151). -/
theorem exec_vdatah_frame {v : Byte} {s t : State} (h : exec (.vdatah v) s = .next t) :
    t = { s with vram := t.vram, vramAddress := t.vramAddress, out := ⟨[], none⟩ } := by
  cases h; rfl

/-- CGDATA changes CGRAM and its pointer only (R153). -/
theorem exec_cgdata_frame {v : Byte} {s t : State} (h : exec (.cgdata v) s = .next t) :
    t = { s with cgram := t.cgram, cgramAddress := t.cgramAddress, out := ⟨[], none⟩ } := by
  cases h; rfl

/-- Settles O25: the byte, the address, and the rest of the state. -/
theorem vdatalStore : Obligations.VdatalStore := by
  unfold Obligations.VdatalStore
  intro v s
  obtain ⟨t, ht⟩ := exec_completes (.vdatal v) s
  refine ⟨t, ht, exec_vdatal_vramRead ht, ?_⟩
  rw [← incrementedAddr_eq, ← exec_vdatal_vramAddress ht]
  exact exec_vdatal_frame ht

/-- Settles O26: the byte, the address, and the rest of the state. -/
theorem vdatahStore : Obligations.VdatahStore := by
  unfold Obligations.VdatahStore
  intro v s
  obtain ⟨t, ht⟩ := exec_completes (.vdatah v) s
  refine ⟨t, ht, exec_vdatah_vramRead ht, ?_⟩
  rw [← incrementedAddr_eq, ← exec_vdatah_vramAddress ht]
  exact exec_vdatah_frame ht

/-- Settles O29: the byte, the pointer, and the rest of the state. -/
theorem cgdataStore : Obligations.CgdataStore := by
  unfold Obligations.CgdataStore
  intro v s
  obtain ⟨t, ht⟩ := exec_completes (.cgdata v) s
  have hpointer : t.cgramAddress = BitVec.ofNat 9 ((s.cgramAddress.toNat + 1) % 512) := by
    rw [exec_cgdata_cgramAddress ht]
    bv_omega
  refine ⟨t, ht, exec_cgdata_cgRead ht, ?_⟩
  rw [← hpointer]
  exact exec_cgdata_frame ht

/-- Only VPORTCTRL and RESET write the flag (10_state R31). -/
theorem exec_incrementOnHighByteWrite {i : Instr} {s t : State} (hr : i ≠ .reset) (hv : ∀ v, i ≠ .vportctrl v)
    (h : exec i s = .next t) : t.incrementOnHighByteWrite = s.incrementOnHighByteWrite := by
  cases i
  case tick => rw [exec_tick_eq h, s.advance_sameRegisterSide.incrementOnHighByteWrite]
  case reset => exact absurd rfl hr
  case vportctrl v => exact absurd rfl (hv v)
  all_goals (cases h; simp)

/-- Settles O27: the two data ports by what they do to the address, the flag by cases on the operation. -/
theorem flagSelectsTheIncrementingHalf : Obligations.FlagSelectsTheIncrementingHalf := by
  unfold Obligations.FlagSelectsTheIncrementingHalf
  refine ⟨fun v w s t u ht hu => ?_, fun v w s t u hinc ht hu => ?_, fun i s t => exec_incrementOnHighByteWrite⟩
  · rw [exec_vdatal_vramAddress ht, exec_vdatah_vramAddress hu]
    exact ⟨fun hf => by rw [hf]; exact ⟨rfl, rfl⟩, fun hf => by rw [hf]; exact ⟨rfl, rfl⟩⟩
  · have hmove := incrementedAddr_ne s.vramAddress (increment_ne_zero hinc)
    rw [exec_vdatal_vramAddress ht, exec_vdatah_vramAddress hu]
    cases s.incrementOnHighByteWrite <;> simp [hmove]

/-! ### Unrecognised WRITEs, and what WRITEs leave alone -/

/-- Settles O31: the default row holds the state, and it is what the word decodes to. -/
theorem unrecognisedWritesAreIgnored : Obligations.UnrecognisedWritesAreIgnored := by
  unfold Obligations.UnrecognisedWritesAreIgnored
  refine fun a v s => ⟨rfl, fun ha => ?_⟩
  rw [decode_writeWord, decodeWrite_other v ha]
  rfl

/-- Every command word of kind 2 decodes to a WRITE (30_encoding R83). -/
theorem isWrite_decodeWrite (a : BusAddr) (v : Byte) : isWrite (decodeWrite a v) = true :=
  decodeWrite_cases (fun _ i => isWrite i = true) rfl rfl rfl rfl rfl rfl rfl rfl rfl rfl rfl rfl rfl rfl
    (fun _ _ => rfl) a

/-- A WRITE changes the fields its rule names, and no other (R140 to R155). -/
theorem exec_write_namedFields {i : Instr} {s t : State} (hi : isWrite i = true) (h : exec i s = .next t) :
    t = { s.withNamedFields i t with out := ⟨[], none⟩ } := by
  cases i
  case nmistat | hvstat | readOther | tick | reset => cases hi
  all_goals (cases h; rfl)

/-- Settles O32: the named fields by cases on the WRITE, the raster and the buffers by what every READ and WRITE
leaves. -/
theorem writesChangeOnlyWhatTheirRuleNames : Obligations.WritesChangeOnlyWhatTheirRuleNames := by
  unfold Obligations.WritesChangeOnlyWhatTheirRuleNames
  refine ⟨fun a v => by rw [decode_writeWord]; exact isWrite_decodeWrite a v, fun i s hi => ?_⟩
  obtain ⟨t, ht⟩ := exec_completes i s
  have hsame : s.SameFrameSide t := exec_sameFrameSide (by rintro rfl; cases hi) (by rintro rfl; cases hi) ht
  exact ⟨t, ht, exec_write_namedFields hi ht, hsame.cycle, hsame.scanline, hsame.frameCount, hsame.nmiFlag,
    hsame.active, hsame.oam, hsame.fb0, hsame.fb1⟩

/-! ### The video memories -/

/-- Only VDATAL, VDATAH and RESET change VRAM (10_state R33). -/
theorem exec_vram {i : Instr} {s t : State} (hr : i ≠ .reset) (hl : ∀ v, i ≠ .vdatal v) (hh : ∀ v, i ≠ .vdatah v)
    (h : exec i s = .next t) : t.vram = s.vram := by
  cases i
  case tick => rw [exec_tick_eq h, s.advance_sameRegisterSide.vram]
  case reset => exact absurd rfl hr
  case vdatal v => exact absurd rfl (hl v)
  case vdatah v => exact absurd rfl (hh v)
  all_goals (cases h; simp)

/-- Only CGDATA and RESET change CGRAM (10_state R35). -/
theorem exec_cgram {i : Instr} {s t : State} (hr : i ≠ .reset) (hc : ∀ v, i ≠ .cgdata v) (h : exec i s = .next t) :
    t.cgram = s.cgram := by
  cases i
  case tick => rw [exec_tick_eq h, s.advance_sameRegisterSide.cgram]
  case reset => exact absurd rfl hr
  case cgdata v => exact absurd rfl (hc v)
  all_goals (cases h; simp)

/-- Only RESET changes OAM and draws the memories afresh (10_state R34, log 5). -/
theorem exec_oam_draws {i : Instr} {s t : State} (hr : i ≠ .reset) (h : exec i s = .next t) :
    t.oam = s.oam ∧ t.draws = s.draws := by
  by_cases hi : i = .tick
  · subst hi
    rw [exec_tick_eq h]
    exact ⟨s.advance_sameRegisterSide.oam, s.advance_sameRegisterSide.draws⟩
  · have hsame := exec_sameFrameSide hi hr h
    exact ⟨hsame.oam, hsame.draws⟩

/-- Settles O45: a read of a memory that has not changed, with the same drawing. -/
theorem onlyDataPortsWriteVideoMemory : Obligations.OnlyDataPortsWriteVideoMemory := by
  unfold Obligations.OnlyDataPortsWriteVideoMemory
  intro i s t hr h
  obtain ⟨hoam, hdraws⟩ := exec_oam_draws hr h
  exact ⟨fun hl hh => State.vramRead_congr (exec_vram hr hl hh h) hdraws,
    fun hc => State.cgRead_congr (exec_cgram hr hc h) hdraws, State.oamRead_congr hoam hdraws, hdraws⟩

/-! ### A word through the VRAM port -/

/-- The two address writes set the whole address (30_encoding R106). -/
theorem withAddrHigh_withAddrLow_toNat (a : VramAddr) (hh ll : Byte) :
    (withAddrHigh (withAddrLow a ll) hh).toNat = hh.toNat % 128 * 256 + ll.toNat := by
  have hll : ll.toNat < 256 := ll.isLt
  rw [withAddrHigh_eq, withAddrLow_eq, BitVec.toNat_ofNat, BitVec.toNat_ofNat]
  omega

/-- `VADDR` sets the address and nothing else that the port uses. -/
theorem runAll_vaddr (s : State) (hh ll : Byte) (rest : List Instr) :
    ∃ t, runAll (vaddr hh ll ++ rest) s = runAll rest t ∧ t.vramAddress.toNat = hh.toNat % 128 * 256 + ll.toNat ∧
      t.vramIncrement = s.vramIncrement ∧ t.incrementOnHighByteWrite = s.incrementOnHighByteWrite ∧
      ∀ a, t.vramRead a = s.vramRead a := by
  refine ⟨{ s with vramAddress := withAddrHigh (withAddrLow s.vramAddress ll) hh, out := ⟨[], none⟩ }, ?_,
    withAddrHigh_withAddrLow_toNat s.vramAddress hh ll, rfl, rfl, State.vramRead_congr rfl rfl⟩
  rw [vaddr, List.cons_append, List.cons_append, List.nil_append, runAll_cons (exec_vaddrl ll s),
    runAll_cons (exec_vaddrh hh _)]

/-- `VWORD`: the low byte at the addressed word; the high byte there too when the flag selects the high half, and else
at the word that the low byte's increment moves to (30_encoding R106, C9). -/
theorem runAll_vword (s : State) (hi lo : Byte) :
    ∃ t, runAll (vword hi lo) s = .next t ∧ t.vramAddress = incrementedAddr s.vramAddress s.vramIncrement ∧
      ∀ a, t.vramRead a =
        if a % 65536 = 2 * (if s.incrementOnHighByteWrite then s.vramAddress
          else incrementedAddr s.vramAddress s.vramIncrement).toNat + 1 then hi
        else if a % 65536 = 2 * s.vramAddress.toNat then lo else s.vramRead a := by
  obtain ⟨u, hu⟩ := exec_completes (.vdatal lo) s
  obtain ⟨t, ht⟩ := exec_completes (.vdatah hi) u
  have hflag : u.incrementOnHighByteWrite = s.incrementOnHighByteWrite := by rw [exec_vdatal_frame hu]
  have hinc : u.vramIncrement = s.vramIncrement := by rw [exec_vdatal_frame hu]
  refine ⟨t, by rw [vword, runAll_cons hu, runAll_cons ht, runAll], ?_, fun a => ?_⟩
  · rw [exec_vdatah_vramAddress ht, hflag, hinc, exec_vdatal_vramAddress hu]
    cases s.incrementOnHighByteWrite <;> rfl
  · rw [exec_vdatah_vramRead ht, exec_vdatal_vramRead hu, exec_vdatal_vramAddress hu]

/-- Settles O35: the address writes, then the two data writes. `high` is the word whose high half is written; like the
addressed word it is below 32768, so the two bytes are different places of VRAM. -/
theorem wordThroughTheVramPort : Obligations.WordThroughTheVramPort := by
  unfold Obligations.WordThroughTheVramPort
  intro s hh ll hi lo
  obtain ⟨u, hu, haddr, hinc, hflag, hread⟩ := runAll_vaddr s hh ll (vword hi lo)
  obtain ⟨t, ht, hmove, hword⟩ := runAll_vword u hi lo
  refine ⟨t, hu.trans ht, ?_⟩
  have hw : u.vramAddress.toNat < 32768 := u.vramAddress.isLt
  have hw' : (incrementedAddr u.vramAddress u.vramIncrement).toNat =
      (u.vramAddress.toNat + s.vramIncrement.toNat) % 32768 := by
    rw [incrementedAddr_eq, BitVec.toNat_ofNat, hinc, Nat.mod_mod_of_dvd _ (by decide)]
  simp only [← haddr, hmove, hword, hflag, apply_ite BitVec.toNat, hw', hread, true_and]
  generalize hhigh : (if s.incrementOnHighByteWrite then u.vramAddress.toNat
    else (u.vramAddress.toNat + s.vramIncrement.toNat) % 32768) = high
  have hlt : high < 32768 := by
    rw [← hhigh]
    split <;> omega
  refine ⟨?_, ?_, fun a hnotLow hnotHigh => ?_⟩
  · rw [if_neg (by omega), if_pos (by omega)]
  · rw [if_pos (by omega)]
  · rw [if_neg hnotHigh, if_neg hnotLow]

end Sys2Proof.Machine
end

section
/-! PROOFS. The register reads (42_register_reads R170, R172, R173): what they answer, and that they may be dropped. -/

namespace Sys2Proof.Machine

/-- The status byte of HVSTAT, as a number (R172, D15). -/
theorem hvStatByte_eq (cycle scanline : BitVec 9) :
    hvStatByte cfg cycle scanline = BitVec.ofNat 8 ((if 225 ≤ scanline.toNat then 128 else 0) +
      (if 0x121 ≤ cycle.toNat ∨ cycle.toNat ≤ 0x15 then 64 else 0)) := by
  rw [hvStatByte, vblank, hblank, cfg_vblankLine, cfg_hblStart, cfg_hblEnd, cfg_vblBit, cfg_hblBit, ← Bool.decide_or]
  split_ifs with hv hh hh <;> simp only [hv, hh, decide_true, decide_false] <;> rfl

/-- Settles O37: the byte as a number. -/
theorem hvstatRead : Obligations.HvstatRead := by
  unfold Obligations.HvstatRead
  intro s
  rw [← hvStatByte_eq]
  rfl

/-- Settles O38: the default row answers 0, and it is what the word decodes to. -/
theorem unrecognisedReadsAreZero : Obligations.UnrecognisedReadsAreZero := by
  unfold Obligations.UnrecognisedReadsAreZero
  refine fun a s => ⟨rfl, fun ha v => ?_⟩
  rw [decode_readWord, decodeRead_other ha]
  rfl

/-- No operation reads the outputs of the step before (log 3). -/
theorem exec_withOut (j : Instr) (s : State) (o : Output) : exec j { s with out := o } = exec j s := by
  cases j <;> rfl

/-- A READ changes the outputs only and sends no event (R170). -/
theorem exec_read {i : Instr} {s t : State} (hi : isRead i = true) (h : exec i s = .next t) :
    t = { s with out := t.out } ∧ t.out.events = [] := by
  refine ⟨(exec_read_idempotent hi h).1, ?_⟩
  obtain rfl | rfl | ⟨a, rfl⟩ := isRead_iff.mp hi <;> cases h <;> rfl

/-- A READ before another operation does not change where the run leads. -/
theorem runAll_read_cons {i : Instr} (hi : isRead i = true) (j : Instr) (after : List Instr) (s : State) :
    runAll (i :: j :: after) s = runAll (j :: after) s := by
  obtain ⟨t, ht⟩ := exec_completes i s
  rw [runAll_cons ht, runAll, runAll, (exec_read hi ht).1, exec_withOut]

/-- A READ does not change the events after it. -/
theorem runEvents_read_cons {i : Instr} (hi : isRead i = true) (after : List Instr) (s : State) :
    runEvents (i :: after) s = runEvents after s := by
  obtain ⟨t, ht⟩ := exec_completes i s
  obtain ⟨hout, hnone⟩ := exec_read hi ht
  rw [runEvents_cons ht, hnone, List.nil_append, hout]
  cases after with
  | nil => rfl
  | cons j after => rw [runEvents, runEvents, exec_withOut]

/-- Settles O39: by induction on what stands before the READ. -/
theorem readsCanBeDropped : Obligations.ReadsCanBeDropped := by
  unfold Obligations.ReadsCanBeDropped
  intro i j before after s hi
  induction before generalizing s with
  | nil => exact ⟨runAll_read_cons hi j after s, runEvents_read_cons hi after s⟩
  | cons k before ih =>
    obtain ⟨t, ht⟩ := exec_completes k s
    obtain ⟨hrun, hevents⟩ := ih t
    simp only [List.cons_append, runAll_cons ht, runEvents_cons ht, hrun, hevents, and_self]

end Sys2Proof.Machine
end

section
/-! PROOFS. Rendering (43_render_pipeline): the colour of a pixel as plain arithmetic (R182 to R187), what it depends on
(R191), the addresses it fetches (R190, R192), and the loop nest of R180. -/

namespace Sys2Proof.Machine

/-! ### The fields of an entry and of a tile row, as numbers -/

theorem tileIndex_toNat (b0 b1 : Byte) : (tileIndex cfg b0 b1).toNat = b1.toNat / 64 * 256 + b0.toNat := by
  have hlo : b0.toNat < 2 ^ 8 := b0.isLt
  have hhi : b1.toNat < 256 := b1.isLt
  rw [tileIndex, BitVec.toNat_append, ← Nat.shiftLeft_add_eq_or_of_lt hlo, Nat.shiftLeft_eq, field_toNat,
    cfg_tileidxHiLsb]
  omega

theorem palGroup_toNat (b1 : Byte) : (palGroup cfg b1).toNat = b1.toNat / 4 % 8 := by
  rw [palGroup, field_toNat, cfg_palLsb]
  rfl

/-- A bit of a byte, as a number. -/
theorem ofBool_getLsbD_toNat (p : Byte) (i : Nat) : (BitVec.ofBool (p.getLsbD i)).toNat = p.toNat / 2 ^ i % 2 := by
  rw [BitVec.toNat_ofBool, getLsbD_eq_beq, beq_eq_decide]
  by_cases hbit : p.toNat / 2 ^ i % 2 = 1
  · simp [hbit]
  · have hzero : p.toNat / 2 ^ i % 2 = 0 := by omega
    simp [hzero]

/-- The first plane gives bit 0 and the second bit 1 (D18). -/
theorem colourIndex_toNat (p0 p1 : Byte) (px : Nat) :
    (colourIndex cfg p0 p1 px).toNat = p1.toNat / 2 ^ (7 - px) % 2 * 2 + p0.toNat / 2 ^ (7 - px) % 2 := by
  have hlo : (BitVec.ofBool (p0.getLsbD (7 - px))).toNat < 2 ^ 1 := (BitVec.ofBool _).isLt
  have happ : (colourIndex cfg p0 p1 px).toNat =
      (BitVec.ofBool (p1.getLsbD (7 - px)) ++ BitVec.ofBool (p0.getLsbD (7 - px))).toNat := rfl
  rw [happ, BitVec.toNat_append, ← Nat.shiftLeft_add_eq_or_of_lt hlo, Nat.shiftLeft_eq, ofBool_getLsbD_toNat,
    ofBool_getLsbD_toNat, Nat.pow_one]

theorem palOffset_eq (g : BitVec 3) (ci : BitVec 2) :
    palOffset g ci = if ci.toNat = 0 then 0 else (g.toNat * 4 + ci.toNat) * 2 := by
  have hzero : ci = 0#2 ↔ ci.toNat = 0 := BitVec.toNat_inj.symm
  simp only [palOffset, hzero]

/-- Settles O40: each field as a number, and the colour as its two bytes. -/
theorem pixelFormula : Obligations.PixelFormula := by
  unfold Obligations.PixelFormula
  intro s x y
  simp only [State.pixelAt, State.cgRead16_toNat, palOffset_eq, palGroup_toNat, colourIndex_toNat, rowAddr, chrAddr,
    tileIndex_toNat, entryAddr, cfg_tileH, cfg_tileW, cfg_gridW, cfg_entryBytes, cfg_tileBytes, cfg_bpp]

/-! ### What a pixel depends on -/

/-- The two bytes of a colour are within the first 64 bytes of CGRAM (10_state R35). -/
theorem palOffset_lt (g : BitVec 3) (ci : BitVec 2) : palOffset g ci + 1 < 64 := by
  have hg : g.toNat < 8 := g.isLt
  have hci : ci.toNat < 4 := ci.isLt
  rw [palOffset_eq]
  split <;> omega

/-- Of CGRAM the colour depends on the first 64 bytes only (R191). -/
theorem State.pixelAt_congr_of_cgRead_lt {s t : State} (hv : ∀ a, t.vramRead a = s.vramRead a)
    (hc : ∀ a, a < 64 → t.cgRead a = s.cgRead a) (ht : t.layer0.tilemapAddress = s.layer0.tilemapAddress)
    (hk : t.layer0.chrAddress = s.layer0.chrAddress) (x y : Nat) : t.pixelAt x y = s.pixelAt x y := by
  have hcolour : ∀ g ci, t.cgRead16 (palOffset g ci) = s.cgRead16 (palOffset g ci) := fun g ci => by
    have hlt := palOffset_lt g ci
    rw [State.cgRead16, State.cgRead16, hc _ hlt, hc _ (by omega)]
  simp only [State.pixelAt, hcolour, hv, ht, hk]

/-- Settles O42: both buffers hold the picture of the state before, and the two pictures agree. -/
theorem pictureDependsOnlyOnItsInputs : Obligations.PictureDependsOnlyOnItsInputs := by
  unfold Obligations.PictureDependsOnlyOnItsInputs
  intro s s' t t' he he' hv hc htm hchr h h' x y hx hy
  rw [exec_tick_eq h, exec_tick_eq h', State.advance_edge_fbRead he hx hy, State.advance_edge_fbRead he' hx hy]
  exact State.pixelAt_congr_of_cgRead_lt hv hc htm hchr x y

/-! ### The addresses fetched -/

/-- A tilemap entry ends at most at byte 65279: the base is at most 0xF800, the last entry number 895 (R190). -/
theorem entryAddr_le {base : BitVec 16} (hbase : base.toNat % 2048 = 0) {row col : Nat} (hrow : row < 28)
    (hcol : col < 32) : entryAddr cfg base row col + 1 ≤ 65279 := by
  have hlt : base.toNat < 65536 := base.isLt
  rw [entryAddr, cfg_gridW, cfg_entryBytes]
  omega

theorem rowAddr_eq (base : BitVec 16) (t : BitVec 10) (py : Nat) :
    rowAddr cfg base t py = base.toNat + t.toNat * 16 + 2 * py := rfl

/-- Only from the last base, 0xE000, does a tile row pass the end of VRAM, and it does from tile 512 on (R192). -/
theorem rowAddr_wraps_iff {base : BitVec 16} (hbase : base.toNat % 8192 = 0) (t : BitVec 10) {py : Nat} (hpy : py < 8) :
    65536 ≤ rowAddr cfg base t py ↔ base = 0xE000#16 ∧ 512 ≤ t.toNat := by
  have hlt : base.toNat < 65536 := base.isLt
  have ht : t.toNat < 1024 := t.isLt
  have hlast : base = 0xE000#16 ↔ base.toNat = 0xE000 := BitVec.toNat_inj.symm
  rw [hlast, rowAddr_eq]
  omega

/-- Settles O43: the alignment of the bases bounds them. -/
theorem renderFetchRanges : Obligations.RenderFetchRanges := by
  unfold Obligations.RenderFetchRanges
  intro s hs
  obtain ⟨htm, hchr⟩ := (LayerConfig.aligned_iff s.layer0).1 hs.aligned.1
  refine ⟨fun row col => entryAddr_le htm, fun t py hpy => ⟨?_, rowAddr_wraps_iff hchr t hpy⟩⟩
  have hlt : s.layer0.chrAddress.toNat < 65536 := s.layer0.chrAddress.isLt
  have ht : t.toNat < 1024 := t.isLt
  rw [rowAddr_eq]
  omega

/-! ### The loop nest -/

/-- `m` with the colour that `s` gives stored at each of the places, one after another. -/
def State.paint (s : State) (m : FrameMemory) (places : List Nat) : FrameMemory :=
  places.foldl (fun m a => Bank.store m a (s.pixelAt (a % 256) (a / 256))) m

theorem State.paint_lookup (s : State) (m : FrameMemory) (places : List Nat) (a : Nat) :
    Bank.lookup (s.paint m places) a =
      if a ∈ places then some (s.pixelAt (a % 256) (a / 256)) else Bank.lookup m a := by
  induction places generalizing m with
  | nil => rfl
  | cons b places ih =>
    rw [State.paint, List.foldl_cons, ← State.paint, ih, Bank.lookup_store]
    by_cases hb : a = b
    · subst hb
      simp
    · simp [hb]

theorem State.paint_wf (s : State) {m : FrameMemory} {places : List Nat} (hm : Bank.wf 57344 m = true)
    (hp : ∀ a ∈ places, a < 57344) : Bank.wf 57344 (s.paint m places) = true := by
  induction places generalizing m with
  | nil => exact hm
  | cons b places ih =>
    rw [List.forall_mem_cons] at hp
    exact ih (Bank.wf_store _ hm hp.1) hp.2

/-- `s` with its active buffer replaced: the state in which the loops of R180 run. -/
def State.canvas (s : State) (m : FrameMemory) : State := s.setFb s.active m

theorem State.setFb_fb (s : State) (b : BufferIndex) : s.setFb b (s.fb b) = s := by
  rcases bufferIndex_cases b with rfl | rfl <;> rfl

theorem State.canvas_fb_active (s : State) : s.canvas (s.fb s.active) = s := s.setFb_fb s.active

/-- A frame-buffer write in the loops: one more pixel stored. -/
theorem State.canvas_fbWrite (s : State) (m : FrameMemory) (x y : Nat) (c : Pixel) :
    (s.canvas m).fbWrite (s.canvas m).active x y c = s.canvas (Bank.store m (pixelIndex x y) c) := by
  have hactive : (s.canvas m).active = s.active := State.setFb_active ..
  rw [State.fbWrite, hactive, State.canvas, State.fb_setFb_same, State.canvas]
  rcases bufferIndex_cases s.active with hb | hb <;> rw [hb] <;> rfl

/-- The loops read VRAM, CGRAM and `layer[0]`, which they do not write. -/
theorem State.canvas_vramRead (s : State) (m : FrameMemory) (a : Nat) : (s.canvas m).vramRead a = s.vramRead a :=
  State.vramRead_congr (State.setFb_vram ..) (State.setFb_draws ..) a

theorem State.canvas_cgRead16 (s : State) (m : FrameMemory) (a : Nat) : (s.canvas m).cgRead16 a = s.cgRead16 a :=
  State.cgRead16_congr (State.setFb_cgram ..) (State.setFb_draws ..) a

theorem State.canvas_layer0 (s : State) (m : FrameMemory) : (s.canvas m).layer0 = s.layer0 := State.setFb_layer0 ..

/-- A loop whose every pass paints some places paints them all, in order. -/
theorem State.foldl_paint (s : State) {step : State → Nat → State} {places : Nat → List Nat} {l : List Nat}
    (hstep : ∀ n ∈ l, ∀ m, step (s.canvas m) n = s.canvas (s.paint m (places n))) (m : FrameMemory) :
    l.foldl step (s.canvas m) = s.canvas (s.paint m (l.flatMap places)) := by
  induction l generalizing m with
  | nil => rfl
  | cons n l ih =>
    rw [List.forall_mem_cons] at hstep
    rw [List.foldl_cons, hstep.1, ih hstep.2, List.flatMap_cons, State.paint, State.paint, State.paint,
      List.foldl_append]

/-- The places of one row of one tile, in the order of R180. -/
def tileRowPlaces (row col py : Nat) : List Nat :=
  (List.range 8).flatMap fun px => [pixelIndex (col * 8 + px) (row * 8 + py)]

/-- The places of one tile, in the order of R180. -/
def tilePlaces (row col : Nat) : List Nat := (List.range 8).flatMap (tileRowPlaces row col)

/-- The places of a frame, in the order of R180. -/
def framePlaces : List Nat := (List.range 28).flatMap fun row => (List.range 32).flatMap (tilePlaces row)

/-- The innermost loop of R180 paints one row of a tile. -/
theorem State.canvas_renderTileRow (s : State) (m : FrameMemory) {row col py : Nat} (hcol : col < 32) (hpy : py < 8) :
    let e := entryAddr cfg s.layer0.tilemapAddress row col
    let r := rowAddr cfg s.layer0.chrAddress (tileIndex cfg (s.vramRead e) (s.vramRead (e + 1))) py
    (s.canvas m).renderTileRow row col py (palGroup cfg (s.vramRead (e + 1))) (s.vramRead r) (s.vramRead (r + 1)) =
      s.canvas (s.paint m (tileRowPlaces row col py)) := by
  intro e r
  refine State.foldl_paint s (fun px hpx m => ?_) m
  have hpx : px < 8 := List.mem_range.1 hpx
  have hx : pixelIndex (col * 8 + px) (row * 8 + py) % 256 = col * 8 + px := by
    rw [pixelIndex, cfg_fbW]; omega
  have hy : pixelIndex (col * 8 + px) (row * 8 + py) / 256 = row * 8 + py := by
    rw [pixelIndex, cfg_fbW]; omega
  have h1 : (row * 8 + py) / 8 = row := by omega
  have h2 : (row * 8 + py) % 8 = py := by omega
  have h3 : (col * 8 + px) / 8 = col := by omega
  have h4 : (col * 8 + px) % 8 = px := by omega
  rw [State.canvas_fbWrite, State.canvas_cgRead16, State.paint, List.foldl_cons, List.foldl_nil, hx, hy, State.pixelAt]
  simp only [cfg_tileW, cfg_tileH, h1, h2, h3, h4, e, r]

/-- The two inner loops of R180 paint one tile. -/
theorem State.canvas_renderTile (s : State) (m : FrameMemory) {row col : Nat} (hcol : col < 32) :
    (s.canvas m).renderTile row col = s.canvas (s.paint m (tilePlaces row col)) := by
  refine State.foldl_paint s (fun py hpy m' => ?_) m
  simp only [State.canvas_layer0, State.canvas_vramRead]
  exact s.canvas_renderTileRow m' hcol (List.mem_range.1 hpy)

/-- The loop nest of R180 paints the frame. -/
theorem State.renderLoop_eq_paint (s : State) : s.renderLoop = s.canvas (s.paint (s.fb s.active) framePlaces) := by
  conv_lhs => rw [← s.canvas_fb_active]
  rw [State.renderLoop, cfg_gridH, cfg_gridW, framePlaces]
  apply State.foldl_paint
  intro row _ m
  apply State.foldl_paint
  intro col hcol m
  exact s.canvas_renderTile m (List.mem_range.1 hcol)

/-- The loops reach every place of a buffer and no other. -/
theorem mem_framePlaces (a : Nat) : a ∈ framePlaces ↔ a < 57344 := by
  simp only [framePlaces, tilePlaces, tileRowPlaces, List.mem_flatMap, List.mem_range, List.mem_singleton, pixelIndex,
    cfg_fbW]
  constructor
  · rintro ⟨row, hrow, col, hcol, py, hpy, px, hpx, rfl⟩
    omega
  · intro ha
    exact ⟨a / 2048, by omega, a % 256 / 8, by omega, a / 256 % 8, by omega, a % 8, by omega, by omega⟩

/-- A rendered frame at every place, inside the buffer and outside. -/
theorem State.lookup_renderedFrame (s : State) (a : Nat) :
    Bank.lookup s.renderedFrame a = if a < 57344 then some (s.pixelAt (a % 256) (a / 256)) else none :=
  Bank.lookup_map_range (fun i => s.pixelAt (i % 256) (i / 256)) 57344 a

/-- Settles O41: the loops and the pixel function leave banks in canonical form that hold the same at every place. -/
theorem renderLoopIsThePixelFunction : Obligations.RenderLoopIsThePixelFunction := by
  unfold Obligations.RenderLoopIsThePixelFunction
  intro s hs
  have hwf := s.paint_wf hs fun a ha => (mem_framePlaces a).1 ha
  rw [State.renderLoop_eq_paint, State.renderFrame, State.canvas]
  refine congrArg (s.setFb s.active) (Bank.ext_of_lookup hwf s.renderedFrame_wf fun a => ?_)
  rw [State.paint_lookup, State.lookup_renderedFrame]
  simp only [mem_framePlaces]
  by_cases ha : a < 57344
  · rw [if_pos ha, if_pos ha]
  · rw [if_neg ha, if_neg ha, Bank.lookup_eq_none_of_ge hs (Nat.le_of_not_lt ha)]

end Sys2Proof.Machine
end

section
/-! PROOFS. Handing a frame over (44_frame_dispatch R200 to R206): what the video output reads after a handoff, until
the next one, and at the next one. -/

namespace Sys2Proof.Machine

/-! ### After the handoff -/

/-- The held ports after the TICK that starts vblank (R204, C2). -/
theorem State.advance_edge_heldPorts {s : State} (he : s.atVblankEdge = true) :
    s.advance.voBuf = s.active ∧ s.advance.voFrame = s.frameCount ∧ s.advance.handedOver = true ∧
      s.advance.active = 1#1 - s.active := by
  rw [State.advance_edge s he]
  exact ⟨rfl, rfl, rfl, rfl⟩

/-- Inside the frame `vo_pixel` shows the buffer that `vo_buf` names (30_encoding R81). -/
theorem State.voPixel_of_lt (s : State) (x : Byte) {y : Byte} (hy : y.toNat < 224) :
    s.voPixel x y = s.fbRead s.voBuf x.toNat y.toNat := by
  rw [State.voPixel, cfg_fbH, if_pos hy]

/-- A read of the buffer handed over is `vo_pixel` (60_exceptions R226). -/
theorem State.voRead_handedOver {s : State} (h : s.handedOver = true) (x y : Byte) :
    s.voRead s.voBuf x y = .ok (s.voPixel x y) := by
  rw [State.voRead, if_pos ⟨h, rfl⟩]

/-- A read of any other buffer is refused (R226, D31). -/
theorem State.voRead_other {s : State} {b : BufferIndex} (hb : b ≠ s.voBuf) (x y : Byte) :
    s.voRead b x y = .error .bufferNotHandedOver := by
  rw [State.voRead, if_neg fun h => hb h.2]

/-- Settles O46: the ports name the buffer that was active, which holds the picture. -/
theorem handedOverBufferHoldsThePicture : Obligations.HandedOverBufferHoldsThePicture := by
  unfold Obligations.HandedOverBufferHoldsThePicture
  intro s t he h
  obtain ⟨hbuf, hframe, hover, -⟩ := State.advance_edge_heldPorts he
  rw [exec_tick_eq h]
  refine ⟨hbuf, hframe, fun x y => ⟨fun hy => ?_, ?_⟩⟩
  · have hpixel : s.advance.voPixel x y = s.pixelAt x.toNat y.toNat := by
      rw [State.voPixel_of_lt _ x hy, hbuf, State.advance_edge_fbRead he x.isLt hy]
    have hread := State.voRead_handedOver hover x y
    rw [hbuf, hpixel] at hread
    exact ⟨hpixel, hread⟩
  · refine State.voRead_other ?_ x y
    rw [hbuf]
    exact bufferIndex_other_ne s.active

/-! ### Until the next handoff -/

theorem State.fb_congr {s t : State} (h0 : t.fb0 = s.fb0) (h1 : t.fb1 = s.fb1) (b : BufferIndex) : t.fb b = s.fb b := by
  rw [State.fb, h0, h1, State.fb]

/-- `vo_pixel` depends on the buffers, the drawing and `vo_buf` (30_encoding R81). -/
theorem State.voPixel_congr {s t : State} (hbuf : t.voBuf = s.voBuf) (h0 : t.fb0 = s.fb0) (h1 : t.fb1 = s.fb1)
    (hd : t.draws = s.draws) (x y : Byte) : t.voPixel x y = s.voPixel x y := by
  rw [State.voPixel, hbuf, State.fbRead_congr (State.fb_congr h0 h1 _) hd, State.voPixel]

/-- How many handoffs an operation sends: one at the start of vblank, else none (R204). -/
theorem exec_countP_isHandoff {i : Instr} {s t : State} (h : exec i s = .next t) :
    t.out.events.countP OutEvent.isHandoff = if i = .tick ∧ s.atVblankEdge = true then 1 else 0 := by
  rw [exec_events h]
  split
  · cases s.nmiEnable <;> rfl
  · rfl

/-- A run without a handoff starts with no TICK of the start of vblank, and goes on without a handoff. -/
theorem countP_isHandoff_cons_eq_zero {i : Instr} {is : List Instr} {s t : State} (h : exec i s = .next t)
    (hz : (runEvents (i :: is) s).countP OutEvent.isHandoff = 0) :
    ¬(i = .tick ∧ s.atVblankEdge = true) ∧ (runEvents is t).countP OutEvent.isHandoff = 0 := by
  rw [runEvents_cons h, List.countP_append, exec_countP_isHandoff h] at hz
  split at hz
  case isTrue => omega
  case isFalse hi => exact ⟨hi, by omega⟩

/-- Until the next handoff no buffer is written, and `active` stays (R206). -/
theorem runAll_frameBuffers {is : List Instr} {s t : State} (hr : Instr.reset ∉ is)
    (hz : (runEvents is s).countP OutEvent.isHandoff = 0) (h : runAll is s = .next t) :
    t.fb0 = s.fb0 ∧ t.fb1 = s.fb1 ∧ t.active = s.active := by
  induction is generalizing s with
  | nil =>
    cases h
    exact ⟨rfl, rfl, rfl⟩
  | cons i is ih =>
    obtain ⟨hi, his⟩ := List.ne_and_not_mem_of_not_mem_cons hr
    obtain ⟨u, hu⟩ := exec_completes i s
    obtain ⟨haway, hz'⟩ := countP_isHandoff_cons_eq_zero hu hz
    obtain ⟨h0, h1, hactive⟩ := exec_frameBuffers haway (Ne.symm hi) hu
    rw [runAll_cons hu] at h
    obtain ⟨h0', h1', hactive'⟩ := ih his hz' h
    exact ⟨h0'.trans h0, h1'.trans h1, hactive'.trans hactive⟩

/-- A buffer that is not active is not written until the render of the second handoff: the first one writes the active
buffer (R206). -/
theorem runAll_fb_of_not_active {is : List Instr} {s t : State} {b : BufferIndex} (hr : Instr.reset ∉ is)
    (hb : b ≠ s.active) (hone : (runEvents is s).countP OutEvent.isHandoff ≤ 1) (h : runAll is s = .next t) :
    t.fb b = s.fb b := by
  induction is generalizing s with
  | nil =>
    cases h
    rfl
  | cons i is ih =>
    obtain ⟨hi, his⟩ := List.ne_and_not_mem_of_not_mem_cons hr
    obtain ⟨u, hu⟩ := exec_completes i s
    rw [runEvents_cons hu, List.countP_append, exec_countP_isHandoff hu] at hone
    rw [runAll_cons hu] at h
    by_cases hedge : i = .tick ∧ s.atVblankEdge = true
    · rw [if_pos hedge] at hone
      obtain ⟨rfl, he⟩ := hedge
      obtain ⟨h0, h1, -⟩ := runAll_frameBuffers his (by omega) h
      rw [State.fb_congr h0 h1, exec_tick_eq hu, State.advance_edge_fb_other he hb]
    · obtain ⟨h0, h1, hactive⟩ := exec_frameBuffers hedge (Ne.symm hi) hu
      rw [ih his (hactive ▸ hb) (by omega) h, State.fb_congr h0 h1]

/-- Settles O47: the ports and the reads because the fields they are made of stay, the buffer because it is not the
active one. -/
theorem handedOverFrameIsStable : Obligations.HandedOverFrameIsStable := by
  unfold Obligations.HandedOverFrameIsStable
  refine ⟨fun i s t hi h => ?_, fun is s t u he h hr hone hrun => ?_⟩
  · obtain ⟨hbuf, hframe, hover⟩ := exec_heldPorts hi h
    refine ⟨hbuf, hframe, fun hr x y => ?_⟩
    obtain ⟨h0, h1, -⟩ := exec_frameBuffers hi hr h
    have hpixel := State.voPixel_congr hbuf h0 h1 (exec_oam_draws hr h).2 x y
    exact ⟨hpixel, fun b => by rw [State.voRead, hover, hbuf, hpixel, State.voRead]⟩
  · obtain ⟨hbuf, -, -, hactive⟩ := State.advance_edge_heldPorts he
    rw [exec_tick_eq h] at hone hrun ⊢
    refine runAll_fb_of_not_active hr ?_ hone hrun
    rw [hbuf, hactive]
    exact (bufferIndex_other_ne s.active).symm

/-! ### The next handoff -/

/-- Settles O48: until the next handoff `active` stays and the count of the frames handed over does, which at the end of
scanline 224 is `frameCount`. -/
theorem handoffsAlternate : Obligations.HandoffsAlternate := by
  unfold Obligations.HandoffsAlternate
  intro is s t u he h hr hnone hrun hu
  obtain ⟨hc, hl⟩ := (State.atVblankEdge_iff s).1 he
  obtain ⟨-, hlu⟩ := (State.atVblankEdge_iff u).1 hu
  have hs : s.RasterInRange := ⟨by omega, by omega⟩
  obtain ⟨hbuf, hframe, -, hactive⟩ := State.advance_edge_heldPorts he
  rw [exec_tick_eq h] at hnone hrun ⊢
  have hframes := runAll_framesHandedOver hr (State.advance_framePosition hs).1 hrun
  rw [hnone, State.advance_framesHandedOver hs, if_pos he, BitVec.add_zero, State.framesHandedOver, if_neg (by omega),
    State.framesHandedOver, if_neg (by omega)] at hframes
  obtain ⟨-, -, hactive'⟩ := runAll_frameBuffers hr hnone hrun
  rw [hactive] at hactive'
  obtain ⟨hbuf', hframe', -, -⟩ := State.advance_edge_heldPorts hu
  refine ⟨u.advance, exec_tick u, ?_, ?_, ?_⟩
  · rw [hbuf', hactive', hbuf]
  · rw [hframe', hframes, hframe]
  · rw [hbuf, hframe, State.advance_edge_out hu, hactive', hframes]
    simp

end Sys2Proof.Machine
end

section
/-! PROOFS. Steps (00_scope R14): the event that the input ports assert (30_encoding R81), no event (60_exceptions
R230), and two events (D26). -/

namespace Sys2Proof.Machine

/-- What the ports carry, by the number of asserted events (30_encoding R81, D26). -/
theorem Ports.event_cases (p : Ports) :
    (p.event = .idle ∧ p.count = 0) ∨ (p.event = .command (packWord p.kind p.busAddr p.busWdata) ∧ p.count = 1) ∨
      (p.event = .clash ∧ 2 ≤ p.count) := by
  rw [Ports.event]
  by_cases h0 : p.count = 0
  · exact .inl ⟨if_pos h0, h0⟩
  · rw [if_neg h0]
    by_cases h1 : p.count = 1
    · exact .inr (.inl ⟨if_pos h1, h1⟩)
    · exact .inr (.inr ⟨if_neg h1, by omega⟩)

/-- At least two events are asserted exactly when some pair of them is. -/
theorem Ports.two_le_count_iff (p : Ports) :
    2 ≤ p.count ↔ ((p.reset && p.tick) || (p.reset && p.busRd) || (p.reset && p.busWr) || (p.tick && p.busRd) ||
      (p.tick && p.busWr) || (p.busRd && p.busWr)) = true := by
  obtain ⟨r, t, rd, wr, a, v⟩ := p
  rw [Ports.count]
  revert r t rd wr
  dsimp only
  decide

theorem step_nil {s : State} (hi : s.inputs = []) : step s = .next s.quiet := by
  rw [step, hi]

theorem step_idle {s : State} {p : Ports} {rest : List Ports} (hi : s.inputs = p :: rest) (hp : p.event = .idle) :
    step s = .next (s.quiet.withInputs rest) := by
  unfold step; rw [hi]; simp only [hp]

theorem step_clash {s : State} {p : Ports} {rest : List Ports} (hi : s.inputs = p :: rest) (hp : p.event = .clash) :
    step s = .refused .simultaneousEvents := by
  unfold step; rw [hi]; simp only [hp]

/-- Settles O5: each port pattern by the command word that it carries. -/
theorem stepRunsThePresentedEvent : Obligations.StepRunsThePresentedEvent := by
  unfold Obligations.StepRunsThePresentedEvent
  intro s rest a v
  refine ⟨?_, ?_, ?_, ?_, fun i hi => ?_⟩
  · exact (step_command rfl (w := packWord 3#2 a v) rfl).trans (by rw [decode_resetWord]; rfl)
  · exact (step_command rfl (w := packWord 0#2 a v) rfl).trans (by rw [decode_tickWord]; rfl)
  · exact (step_command rfl (w := packWord 1#2 a v) rfl).trans (by rw [decode_readWord]; rfl)
  · exact (step_command rfl (w := packWord 2#2 a v) rfl).trans (by rw [decode_writeWord]; rfl)
  · exact (step_command rfl (Ports.event_ofWord (encode i))).trans (by rw [decode_encode hi]; rfl)

/-- Settles O6: the two ways in which no event is presented. -/
theorem stepWithoutEventHolds : Obligations.StepWithoutEventHolds := by
  unfold Obligations.StepWithoutEventHolds
  exact fun s => ⟨fun hi => step_nil hi, fun a v rest hi => step_idle hi rfl⟩

/-- A step answers a next state, or it refuses and its ports assert two events (D26). -/
theorem step_cases (s : State) :
    (∃ t, step s = .next t) ∧ (∀ p rest, s.inputs = p :: rest → p.count < 2) ∨
      step s = .refused .simultaneousEvents ∧ ∃ p rest, s.inputs = p :: rest ∧ 2 ≤ p.count := by
  rcases hi : s.inputs with _ | ⟨p, rest⟩
  · exact .inl ⟨⟨_, step_nil hi⟩, fun p rest h => nomatch h⟩
  · have hcount : ∀ q rest', p :: rest = q :: rest' → q = p := fun q rest' h => (List.cons.inj h).1.symm
    rcases p.event_cases with ⟨hp, hc⟩ | ⟨hp, hc⟩ | ⟨hp, hc⟩
    · exact .inl ⟨⟨_, step_idle hi hp⟩, fun q rest' h => by rw [hcount q rest' h]; omega⟩
    · obtain ⟨t, ht⟩ := exec_completes (decode (packWord p.kind p.busAddr p.busWdata)) (s.withInputs rest)
      exact .inl ⟨⟨t, (step_command hi hp).trans ht⟩, fun q rest' h => by rw [hcount q rest' h]; omega⟩
    · exact .inr ⟨step_clash hi hp, p, rest, rfl, hc⟩

/-- Settles O7: the two outcomes of a step exclude each other. -/
theorem stepRefusesOnlyTwoEvents : Obligations.StepRefusesOnlyTwoEvents := by
  unfold Obligations.StepRefusesOnlyTwoEvents
  intro s
  simp only [← Ports.two_le_count_iff]
  rcases step_cases s with ⟨⟨t, ht⟩, hfew⟩ | ⟨hrefused, htwo⟩
  · refine ⟨.inl ⟨t, ht⟩, fun h => ?_, fun ⟨p, rest, hi, htwo⟩ => absurd (hfew p rest hi) (by omega)⟩
    rw [ht] at h
    cases h
  · exact ⟨.inr hrefused, fun _ => htwo, fun _ => hrefused⟩

end Sys2Proof.Machine
end

section
/-! PROOFS. RESET (70_reset_and_hazards R240, R242): the reset table (10_state R42) and the fresh memories (R43). -/

namespace Sys2Proof.Machine

/-- The state of the reset table with the fields that RESET does not set to a fixed value taken from `s`: the held
ports, the number of the drawing and the events to come (log 1, log 4, log 5). -/
def State.afterReset (s : State) : State :=
  { State.reset with
    voBuf := s.voBuf, voFrame := s.voFrame, handedOver := s.handedOver, draws := s.draws, inputs := s.inputs }

/-- RESET, whole (R240). -/
theorem exec_reset (s : State) : exec .reset s = .next (State.afterReset { s with draws := s.draws + 1 }) := rfl

/-! ### Nothing is stored after RESET, so every read is a free value of the drawing (R242) -/

theorem State.afterReset_vramRead (s : State) (a : Nat) :
    s.afterReset.vramRead a = Config.initVram s.draws (a % 65536) := rfl

theorem State.afterReset_cgRead (s : State) (a : Nat) :
    s.afterReset.cgRead a = Config.initCgram s.draws (a % 512) := rfl

theorem State.afterReset_oamRead (s : State) (a : Nat) :
    s.afterReset.oamRead a = Config.initOam s.draws (a % 544) := rfl

theorem State.afterReset_fbRead (s : State) (b : BufferIndex) (x y : Nat) :
    s.afterReset.fbRead b x y = Config.initFb s.draws b (y * 256 + x) := by
  rcases bufferIndex_cases b with rfl | rfl <;> rfl

/-- The four layers are cleared (10_state R42). -/
theorem State.afterReset_layers (s : State) :
    ∀ l ∈ [s.afterReset.layer0, s.afterReset.layer1, s.afterReset.layer2, s.afterReset.layer3],
      l = ⟨0#16, 0#16, false, false⟩ := by
  intro l hl
  exact List.eq_of_mem_replicate (n := 4) hl

/-- NMISTAT after RESET answers with bit 7 clear (42_register_reads R171). -/
theorem State.afterReset_nmistat (s : State) :
    ∃ u b, exec .nmistat s.afterReset = .next u ∧ u.out.readData = some b ∧ b.getLsbD 7 = false :=
  ⟨_, _, exec_nmistat _, rfl, nmiStatByte_getLsbD_seven _⟩

/-- HVSTAT after RESET answers hblank alone (R172): the raster is at (0, 0). -/
theorem State.afterReset_hvstat (s : State) :
    ∃ u, exec .hvstat s.afterReset = .next u ∧ u.out.readData = some 0x40#8 := by
  have hbyte : hvStatByte cfg 0#9 0#9 = 0x40#8 := by decide
  exact ⟨_, rfl, congrArg some hbyte⟩

/-- Settles O49: the values of the table by the form of the state after RESET, the reads by their lemmas. -/
theorem resetLeavesTheTableValues : Obligations.ResetLeavesTheTableValues := by
  unfold Obligations.ResetLeavesTheTableValues
  intro table
  have htable : ∀ s : State, table s.afterReset := fun s =>
    ⟨rfl, rfl, rfl, rfl, rfl, s.afterReset_layers, rfl, rfl, rfl, rfl, rfl, rfl, rfl, s.afterReset_vramRead,
      s.afterReset_cgRead, s.afterReset_oamRead, s.afterReset_fbRead, s.afterReset_nmistat, s.afterReset_hvstat⟩
  exact ⟨htable State.reset, fun s => ⟨_, exec_reset s, htable _, rfl, rfl, rfl, rfl, rfl⟩⟩

end Sys2Proof.Machine
end
